-- ==== Sys2Proof/Word.lean ====
section
/-! DEFINITION. The byte (00_scope.md R14: 8 bits, unsigned, 0..255). Every other quantity of the block is a natural
number (R13). -/

namespace Sys2Proof

/-- One byte of the Byte Sequence: 8 bits, bit 0 the least significant (R12, R14). -/
abbrev Byte := BitVec 8

end Sys2Proof
end

