-- ==== Sys2Proof/Config.lean ====
section
/-! DEFINITION. The implementation parameters of 00_scope.md R9, each with the value this hardware takes. -/

namespace Sys2Proof.Config

/-- Width in bits of CURSOR, COUNT, LEN (R9; open parameter `W` of D1, default 32). The registers themselves are
naturals, which is the normative semantics (R13); `W` enters only through the launch premise of R31. -/
def regWidth : Nat := 32

/-- `TAG_HEADER_SIZE` (R9): the fixed 10-byte header of the leading tag. -/
def tagHeaderSize : Nat := 10

/-- `TAG_SIZE_FIELD_OFFSET` (R9): the size digits stand at bytes 6 to 9. -/
def tagSizeFieldOffset : Nat := 6

/-- `HEADER_BYTES` (R9). -/
def headerBytes : Nat := 4

/-- `HEADROOM` (R9, R192): the loop runs while CURSOR + 4 < LEN. -/
def headroom : Nat := 4

/-- `SLOT_CONSTANT` (R9, R150). -/
def slotConstant : Nat := 144

/-- `XING_OFFSET` (R9, R94): never adjusted for the channel mode (R176). -/
def xingOffset : Nat := 36

/-- `VBRI_OFFSET` (R9, R94; 90_conflicts.md C8 keeps 40). -/
def vbriOffset : Nat := 40

/-- Supported version field (R9, R143). -/
def supportedVersion : Nat := 3

/-- Supported layer field (R9, R143). -/
def supportedLayer : Nat := 1

/-- The largest frame size (R10): 320 kbps, 32 000 Hz, padding. It enters the width premise of R31. -/
def maxFrameSize : Nat := 1441

/-- The least register width of R31: the largest tag offset is below 2^29. -/
def minRegWidth : Nat := 29

/-- `BITRATE_ROM` (R29), kbps by the 4-bit index; `none` is the marker `invalid` (R32: a tagged value, no sentinel).
PRESUMED by the spec itself at indices 1 to 14 (D8, G1): log 13. -/
def bitrateRom : List (Option Nat) :=
  [none, some 32, some 40, some 48, some 56, some 64, some 80, some 96,
   some 112, some 128, some 160, some 192, some 224, some 256, some 320, none]

/-- `SAMPLERATE_ROM` (R30), Hz by the 2-bit index. Which index holds which rate is D9: log 14. -/
def samplerateRom : List (Option Nat) :=
  [some 44100, some 48000, some 32000, none]

end Sys2Proof.Config
end

