-- ==== Sys2Proof/Syntax.lean ====
section
/-! DEFINITION. The instructions: one constructor per row of the opcode table (30_encoding.md R99). -/

namespace Sys2Proof

/-- The two places the Metadata-Frame Detector looks at (30_encoding.md R93, R94): the window at p + 36, where `Xing`
and `Info` are looked for, and the window at p + 40, where `VBRI` is. -/
inductive SigWindow where
  | at36
  | at40
deriving DecidableEq, Repr

/-- The formats of 30_encoding.md R80, with the window a signature is read from (the `SIG4` rows depend on it), and the
2-bit PHASE code that selects the step (R96, R99). -/
inductive Format where
  | mpahdr
  | id3hdr
  | sig4 (window : SigWindow)
  | phase
deriving DecidableEq, Repr

/-- The rows of the opcode table. A valid header class carries its padding bit, the leading tag its four 7-bit size
digits (a most significant, R90), a window without a match the window it is about. Ignored bits (R88, R90) are no part
of an instruction: words that differ only in them decode to the same instruction (log 10). -/
inductive Instr where
  | l3_32k_44100 (padding : Bool)
  | l3_32k_48000 (padding : Bool)
  | l3_32k_32000 (padding : Bool)
  | l3_40k_44100 (padding : Bool)
  | l3_40k_48000 (padding : Bool)
  | l3_40k_32000 (padding : Bool)
  | l3_48k_44100 (padding : Bool)
  | l3_48k_48000 (padding : Bool)
  | l3_48k_32000 (padding : Bool)
  | l3_56k_44100 (padding : Bool)
  | l3_56k_48000 (padding : Bool)
  | l3_56k_32000 (padding : Bool)
  | l3_64k_44100 (padding : Bool)
  | l3_64k_48000 (padding : Bool)
  | l3_64k_32000 (padding : Bool)
  | l3_80k_44100 (padding : Bool)
  | l3_80k_48000 (padding : Bool)
  | l3_80k_32000 (padding : Bool)
  | l3_96k_44100 (padding : Bool)
  | l3_96k_48000 (padding : Bool)
  | l3_96k_32000 (padding : Bool)
  | l3_112k_44100 (padding : Bool)
  | l3_112k_48000 (padding : Bool)
  | l3_112k_32000 (padding : Bool)
  | l3_128k_44100 (padding : Bool)
  | l3_128k_48000 (padding : Bool)
  | l3_128k_32000 (padding : Bool)
  | l3_160k_44100 (padding : Bool)
  | l3_160k_48000 (padding : Bool)
  | l3_160k_32000 (padding : Bool)
  | l3_192k_44100 (padding : Bool)
  | l3_192k_48000 (padding : Bool)
  | l3_192k_32000 (padding : Bool)
  | l3_224k_44100 (padding : Bool)
  | l3_224k_48000 (padding : Bool)
  | l3_224k_32000 (padding : Bool)
  | l3_256k_44100 (padding : Bool)
  | l3_256k_48000 (padding : Bool)
  | l3_256k_32000 (padding : Bool)
  | l3_320k_44100 (padding : Bool)
  | l3_320k_48000 (padding : Bool)
  | l3_320k_32000 (padding : Bool)
  | invalidVersion0
  | invalidVersion1
  | invalidVersion2
  | invalidLayer0
  | invalidLayer2
  | invalidLayer3
  | invalidBitrateFree
  | invalidBitrateRsvd
  | invalidSamplerateRsvd
  | invalidNosync
  | id3hdr (a b c d : Nat)
  | id3hdrAbsent
  | sigXing
  | sigInfo
  | sigVbri
  | sig4None (window : SigWindow)
  | phaseIdle
  | tagskip
  | walk
  | phaseDone
deriving DecidableEq, Repr

/-- The format a row belongs to (the table's `format`; the window is the row's own, R93). -/
def Instr.format : Instr → Format
  | .l3_32k_44100 _ | .l3_32k_48000 _ | .l3_32k_32000 _
  | .l3_40k_44100 _ | .l3_40k_48000 _ | .l3_40k_32000 _
  | .l3_48k_44100 _ | .l3_48k_48000 _ | .l3_48k_32000 _
  | .l3_56k_44100 _ | .l3_56k_48000 _ | .l3_56k_32000 _
  | .l3_64k_44100 _ | .l3_64k_48000 _ | .l3_64k_32000 _
  | .l3_80k_44100 _ | .l3_80k_48000 _ | .l3_80k_32000 _
  | .l3_96k_44100 _ | .l3_96k_48000 _ | .l3_96k_32000 _
  | .l3_112k_44100 _ | .l3_112k_48000 _ | .l3_112k_32000 _
  | .l3_128k_44100 _ | .l3_128k_48000 _ | .l3_128k_32000 _
  | .l3_160k_44100 _ | .l3_160k_48000 _ | .l3_160k_32000 _
  | .l3_192k_44100 _ | .l3_192k_48000 _ | .l3_192k_32000 _
  | .l3_224k_44100 _ | .l3_224k_48000 _ | .l3_224k_32000 _
  | .l3_256k_44100 _ | .l3_256k_48000 _ | .l3_256k_32000 _
  | .l3_320k_44100 _ | .l3_320k_48000 _ | .l3_320k_32000 _
  | .invalidVersion0 | .invalidVersion1 | .invalidVersion2
  | .invalidLayer0 | .invalidLayer2 | .invalidLayer3
  | .invalidBitrateFree | .invalidBitrateRsvd | .invalidSamplerateRsvd
  | .invalidNosync => .mpahdr
  | .id3hdr _ _ _ _ | .id3hdrAbsent => .id3hdr
  | .sigXing | .sigInfo => .sig4 .at36
  | .sigVbri => .sig4 .at40
  | .sig4None w => .sig4 w
  | .phaseIdle | .tagskip | .walk | .phaseDone => .phase

/-- How many bytes the table gives the row: 4 for a header or a signature, 10 for the tag header, 3 for the tag's
absence (24-bit word of the first three bytes, R99), 1 for a 2-bit PHASE code. -/
def Instr.byteCount : Instr → Nat
  | .l3_32k_44100 _ | .l3_32k_48000 _ | .l3_32k_32000 _
  | .l3_40k_44100 _ | .l3_40k_48000 _ | .l3_40k_32000 _
  | .l3_48k_44100 _ | .l3_48k_48000 _ | .l3_48k_32000 _
  | .l3_56k_44100 _ | .l3_56k_48000 _ | .l3_56k_32000 _
  | .l3_64k_44100 _ | .l3_64k_48000 _ | .l3_64k_32000 _
  | .l3_80k_44100 _ | .l3_80k_48000 _ | .l3_80k_32000 _
  | .l3_96k_44100 _ | .l3_96k_48000 _ | .l3_96k_32000 _
  | .l3_112k_44100 _ | .l3_112k_48000 _ | .l3_112k_32000 _
  | .l3_128k_44100 _ | .l3_128k_48000 _ | .l3_128k_32000 _
  | .l3_160k_44100 _ | .l3_160k_48000 _ | .l3_160k_32000 _
  | .l3_192k_44100 _ | .l3_192k_48000 _ | .l3_192k_32000 _
  | .l3_224k_44100 _ | .l3_224k_48000 _ | .l3_224k_32000 _
  | .l3_256k_44100 _ | .l3_256k_48000 _ | .l3_256k_32000 _
  | .l3_320k_44100 _ | .l3_320k_48000 _ | .l3_320k_32000 _
  | .invalidVersion0 | .invalidVersion1 | .invalidVersion2
  | .invalidLayer0 | .invalidLayer2 | .invalidLayer3
  | .invalidBitrateFree | .invalidBitrateRsvd | .invalidSamplerateRsvd
  | .invalidNosync => 4
  | .id3hdr _ _ _ _ => 10
  | .id3hdrAbsent => 3
  | .sigXing | .sigInfo | .sigVbri | .sig4None _ => 4
  | .phaseIdle | .tagskip | .walk | .phaseDone => 1

end Sys2Proof
end

