-- ==== Sys2Proof/WellFormed.lean ====
section
/-! DEFINITION. Which instructions are well formed: those whose operands their encoding can hold. -/

namespace Sys2Proof

/-- A tag size digit is a 7-bit value, 0..127 (30_encoding.md R90, 40_tag_skipper.md R123). -/
def digitOk (d : Nat) : Bool := decide (d < 128)

/-- The four size digits of the tag header each fit their 7 bits. A padding bit and a window are well formed by their
types; the other rows have no operand. -/
def Instr.wf : Instr → Bool
  | .id3hdr a b c d => digitOk a && digitOk b && digitOk c && digitOk d
  | .l3_32k_44100 _ | .l3_32k_48000 _ | .l3_32k_32000 _
  | .l3_40k_44100 _ | .l3_40k_48000 _ | .l3_40k_32000 _
  | .l3_48k_44100 _ | .l3_48k_48000 _ | .l3_48k_32000 _
  | .l3_56k_44100 _ | .l3_56k_48000 _ | .l3_56k_32000 _
  | .l3_64k_44100 _ | .l3_64k_48000 _ | .l3_64k_32000 _
  | .l3_80k_44100 _ | .l3_80k_48000 _ | .l3_80k_32000 _
  | .l3_96k_44100 _ | .l3_96k_48000 _ | .l3_96k_32000 _
  | .l3_112k_44100 _ | .l3_112k_48000 _ | .l3_112k_32000 _
  | .l3_128k_44100 _ | .l3_128k_48000 _ | .l3_128k_32000 _
  | .l3_160k_44100 _ | .l3_160k_48000 _ | .l3_160k_32000 _
  | .l3_192k_44100 _ | .l3_192k_48000 _ | .l3_192k_32000 _
  | .l3_224k_44100 _ | .l3_224k_48000 _ | .l3_224k_32000 _
  | .l3_256k_44100 _ | .l3_256k_48000 _ | .l3_256k_32000 _
  | .l3_320k_44100 _ | .l3_320k_48000 _ | .l3_320k_32000 _
  | .invalidVersion0 | .invalidVersion1 | .invalidVersion2
  | .invalidLayer0 | .invalidLayer2 | .invalidLayer3
  | .invalidBitrateFree | .invalidBitrateRsvd | .invalidSamplerateRsvd
  | .invalidNosync
  | .id3hdrAbsent | .sigXing | .sigInfo | .sigVbri | .sig4None _
  | .phaseIdle | .tagskip | .walk | .phaseDone => true

end Sys2Proof
end

