-- ==== Sys2Proof/Decode.lean ====
section
/-! DEFINITION. The decoder: bytes to an instruction of the opcode table, total, rejecting by name; then the encoder,
written from the same rows. Bit-field accessors are those of 30_encoding.md R98. -/

namespace Sys2Proof

/-- The bytes of a word of `n` bytes, most significant first: byte 0 is the leftmost byte of the word
(30_encoding.md R81 for four bytes, R90 for ten, R99 for three). -/
def beBytes : Nat → Nat → List Byte
  | 0, _ => []
  | n + 1, w => beBytes n (w / 256) ++ [BitVec.ofNat 8 w]

/-- Frame sync (R98, R142): byte 0 is 0xFF and bits 5 to 7 of byte 1 are all set. -/
def hasSync (b0 b1 : Byte) : Bool := b0 == 0xFF#8 && (b1 &&& 0xE0#8) == 0xE0#8

/-- `version_id_of` (R98): byte 1, bits 4 to 3. -/
def versionIdOf (b1 : Byte) : Nat := ((b1 >>> 3) &&& 3#8).toNat

/-- `layer_of` (R98): byte 1, bits 2 to 1. -/
def layerOf (b1 : Byte) : Nat := ((b1 >>> 1) &&& 3#8).toNat

/-- `bitrate_index_of` (R98): byte 2, bits 7 to 4. -/
def bitrateIndexOf (b2 : Byte) : Nat := ((b2 >>> 4) &&& 15#8).toNat

/-- `samplerate_index_of` (R98): byte 2, bits 3 to 2. -/
def samplerateIndexOf (b2 : Byte) : Nat := ((b2 >>> 2) &&& 3#8).toNat

/-- `padding_of` (R98): byte 2, bit 1. -/
def paddingOf (b2 : Byte) : Bool := ((b2 >>> 1) &&& 1#8) == 1#8

/-- One tag size digit: the low 7 bits of its byte, bit 7 masked off and not checked (R91); a byte that does not exist
counts as 0 (40_tag_skipper.md R124). -/
def digitOf : Option Byte → Nat
  | none => 0
  | some b => (b &&& 0x7F#8).toNat

/-- `ascii("ID3")` (30_encoding.md R90, R95; the codes are D10: log 15). -/
def asciiId3 : List Byte := [0x49#8, 0x44#8, 0x33#8]

/-- `ascii("Xing")` (R93). -/
def asciiXing : List Byte := [0x58#8, 0x69#8, 0x6E#8, 0x67#8]

/-- `ascii("Info")` (R93). -/
def asciiInfo : List Byte := [0x49#8, 0x6E#8, 0x66#8, 0x6F#8]

/-- `ascii("VBRI")` (R93). -/
def asciiVbri : List Byte := [0x56#8, 0x42#8, 0x52#8, 0x49#8]

/-- The class of a bitrate index by its sample-rate index: the table's three columns; index 3 has none. -/
def byRate (si : Nat) (r44100 r48000 r32000 : Instr) : Option Instr :=
  match si with
  | 0 => some r44100
  | 1 => some r48000
  | 2 => some r32000
  | _ => none

/-- The 42 valid rows by `(bitrate_index, samplerate_index)` (R86): `match = 0xFFFA0000 | bi << 12 | si << 10`. -/
def validClass (bi si : Nat) (padding : Bool) : Option Instr :=
  match bi with
  | 1 => byRate si (.l3_32k_44100 padding) (.l3_32k_48000 padding) (.l3_32k_32000 padding)
  | 2 => byRate si (.l3_40k_44100 padding) (.l3_40k_48000 padding) (.l3_40k_32000 padding)
  | 3 => byRate si (.l3_48k_44100 padding) (.l3_48k_48000 padding) (.l3_48k_32000 padding)
  | 4 => byRate si (.l3_56k_44100 padding) (.l3_56k_48000 padding) (.l3_56k_32000 padding)
  | 5 => byRate si (.l3_64k_44100 padding) (.l3_64k_48000 padding) (.l3_64k_32000 padding)
  | 6 => byRate si (.l3_80k_44100 padding) (.l3_80k_48000 padding) (.l3_80k_32000 padding)
  | 7 => byRate si (.l3_96k_44100 padding) (.l3_96k_48000 padding) (.l3_96k_32000 padding)
  | 8 => byRate si (.l3_112k_44100 padding) (.l3_112k_48000 padding) (.l3_112k_32000 padding)
  | 9 => byRate si (.l3_128k_44100 padding) (.l3_128k_48000 padding) (.l3_128k_32000 padding)
  | 10 => byRate si (.l3_160k_44100 padding) (.l3_160k_48000 padding) (.l3_160k_32000 padding)
  | 11 => byRate si (.l3_192k_44100 padding) (.l3_192k_48000 padding) (.l3_192k_32000 padding)
  | 12 => byRate si (.l3_224k_44100 padding) (.l3_224k_48000 padding) (.l3_224k_32000 padding)
  | 13 => byRate si (.l3_256k_44100 padding) (.l3_256k_48000 padding) (.l3_256k_32000 padding)
  | 14 => byRate si (.l3_320k_44100 padding) (.l3_320k_48000 padding) (.l3_320k_32000 padding)
  | _ => none

/-- The class of an unsupported version (R87). -/
def versionClass (version : Nat) : Instr :=
  if version = 0 then .invalidVersion0 else if version = 1 then .invalidVersion1 else .invalidVersion2

/-- The class of an unsupported layer (R87). -/
def layerClass (layer : Nat) : Instr :=
  if layer = 0 then .invalidLayer0 else if layer = 2 then .invalidLayer2 else .invalidLayer3

/-- The class of a supported version and layer whose indices give no valid row (R87). A word can match the bitrate row
and the sample-rate row at once and R87 ranks neither: the sample-rate row is named first, so that every row's own
`match` word names that row. DESIGN CHOICE without effect (R232): log 9. -/
def indexClass (bi si : Nat) : Instr :=
  if si = 3 then .invalidSamplerateRsvd else if bi = 0 then .invalidBitrateFree else .invalidBitrateRsvd

/-- The `MPAHDR` row of a header candidate: sync, version, layer, then the indices (R81 to R87). Byte 3 is not
examined (R88), so it is no argument. -/
def headerClass (b0 b1 b2 : Byte) : Instr :=
  if hasSync b0 b1 then
    if versionIdOf b1 = Config.supportedVersion then
      if layerOf b1 = Config.supportedLayer then
        (validClass (bitrateIndexOf b2) (samplerateIndexOf b2) (paddingOf b2)).getD
          (indexClass (bitrateIndexOf b2) (samplerateIndexOf b2))
      else layerClass (layerOf b1)
    else versionClass (versionIdOf b1)
  else .invalidNosync

/-- The `ID3HDR` row of the bytes at offset 0, as many of the ten as exist: the signature must be there whole (R121),
missing size bytes are digit 0 (R124), bytes 3 to 5 are not looked at (R92). -/
def tagClass (bs : List Byte) : Instr :=
  if bs.take 3 = asciiId3 then
    .id3hdr (digitOf bs[6]?) (digitOf bs[7]?) (digitOf bs[8]?) (digitOf bs[9]?)
  else .id3hdrAbsent

/-- The `SIG4` row of a window's bytes: exact equality with a signature of THAT window (R93, R173), else no match; a
window that is not wholly inside the buffer matches nothing (R174). -/
def sigClass (w : SigWindow) (bs : List Byte) : Instr :=
  match w with
  | .at36 => if bs = asciiXing then .sigXing else if bs = asciiInfo then .sigInfo else .sig4None .at36
  | .at40 => if bs = asciiVbri then .sigVbri else .sig4None .at40

/-- The row a PHASE code selects (10_state.md R27). -/
def phaseClass (code : BitVec 2) : Instr :=
  if code = 0#2 then .phaseIdle else if code = 1#2 then .tagskip else if code = 2#2 then .walk else .phaseDone

/-- Why bytes are no instruction of a format. -/
inductive DecodeError where
  /-- A header candidate is exactly four bytes (41_header_decoder.md R141). -/
  | headerNotFourBytes
  /-- A PHASE code is one byte here, with only its two low bits in use (10_state.md R27). -/
  | notAPhaseCode
deriving DecidableEq, Repr

/-- The decoder, total on any bytes. -/
def decode : Format → List Byte → Except DecodeError Instr
  | .mpahdr, [b0, b1, b2, _] => .ok (headerClass b0 b1 b2)
  | .mpahdr, _ => .error .headerNotFourBytes
  | .id3hdr, bs => .ok (tagClass bs)
  | .sig4 w, bs => .ok (sigClass w bs)
  | .phase, [b] => if b.toNat < 4 then .ok (phaseClass (b.setWidth 2)) else .error .notAPhaseCode
  | .phase, _ => .error .notAPhaseCode

/-! The encoder. -/

/-- The padding bit of a valid header word: bit 9 (R81). -/
def paddingBits (padding : Bool) : Nat := if padding then 0x200 else 0

/-- The word of an instruction, numbered as the opcode table numbers it: the row's `match`, with the operands in their
places. Ignored bits are 0. -/
def encodeWord : Instr → Nat
  | .l3_32k_44100 padding => 0xFFFA1000 + paddingBits padding
  | .l3_32k_48000 padding => 0xFFFA1400 + paddingBits padding
  | .l3_32k_32000 padding => 0xFFFA1800 + paddingBits padding
  | .l3_40k_44100 padding => 0xFFFA2000 + paddingBits padding
  | .l3_40k_48000 padding => 0xFFFA2400 + paddingBits padding
  | .l3_40k_32000 padding => 0xFFFA2800 + paddingBits padding
  | .l3_48k_44100 padding => 0xFFFA3000 + paddingBits padding
  | .l3_48k_48000 padding => 0xFFFA3400 + paddingBits padding
  | .l3_48k_32000 padding => 0xFFFA3800 + paddingBits padding
  | .l3_56k_44100 padding => 0xFFFA4000 + paddingBits padding
  | .l3_56k_48000 padding => 0xFFFA4400 + paddingBits padding
  | .l3_56k_32000 padding => 0xFFFA4800 + paddingBits padding
  | .l3_64k_44100 padding => 0xFFFA5000 + paddingBits padding
  | .l3_64k_48000 padding => 0xFFFA5400 + paddingBits padding
  | .l3_64k_32000 padding => 0xFFFA5800 + paddingBits padding
  | .l3_80k_44100 padding => 0xFFFA6000 + paddingBits padding
  | .l3_80k_48000 padding => 0xFFFA6400 + paddingBits padding
  | .l3_80k_32000 padding => 0xFFFA6800 + paddingBits padding
  | .l3_96k_44100 padding => 0xFFFA7000 + paddingBits padding
  | .l3_96k_48000 padding => 0xFFFA7400 + paddingBits padding
  | .l3_96k_32000 padding => 0xFFFA7800 + paddingBits padding
  | .l3_112k_44100 padding => 0xFFFA8000 + paddingBits padding
  | .l3_112k_48000 padding => 0xFFFA8400 + paddingBits padding
  | .l3_112k_32000 padding => 0xFFFA8800 + paddingBits padding
  | .l3_128k_44100 padding => 0xFFFA9000 + paddingBits padding
  | .l3_128k_48000 padding => 0xFFFA9400 + paddingBits padding
  | .l3_128k_32000 padding => 0xFFFA9800 + paddingBits padding
  | .l3_160k_44100 padding => 0xFFFAA000 + paddingBits padding
  | .l3_160k_48000 padding => 0xFFFAA400 + paddingBits padding
  | .l3_160k_32000 padding => 0xFFFAA800 + paddingBits padding
  | .l3_192k_44100 padding => 0xFFFAB000 + paddingBits padding
  | .l3_192k_48000 padding => 0xFFFAB400 + paddingBits padding
  | .l3_192k_32000 padding => 0xFFFAB800 + paddingBits padding
  | .l3_224k_44100 padding => 0xFFFAC000 + paddingBits padding
  | .l3_224k_48000 padding => 0xFFFAC400 + paddingBits padding
  | .l3_224k_32000 padding => 0xFFFAC800 + paddingBits padding
  | .l3_256k_44100 padding => 0xFFFAD000 + paddingBits padding
  | .l3_256k_48000 padding => 0xFFFAD400 + paddingBits padding
  | .l3_256k_32000 padding => 0xFFFAD800 + paddingBits padding
  | .l3_320k_44100 padding => 0xFFFAE000 + paddingBits padding
  | .l3_320k_48000 padding => 0xFFFAE400 + paddingBits padding
  | .l3_320k_32000 padding => 0xFFFAE800 + paddingBits padding
  | .invalidVersion0 => 0xFFE00000
  | .invalidVersion1 => 0xFFE80000
  | .invalidVersion2 => 0xFFF00000
  | .invalidLayer0 => 0xFFF80000
  | .invalidLayer2 => 0xFFFC0000
  | .invalidLayer3 => 0xFFFE0000
  | .invalidBitrateFree => 0xFFFA0000
  | .invalidBitrateRsvd => 0xFFFAF000
  | .invalidSamplerateRsvd => 0xFFFA0C00
  | .invalidNosync => 0x00000000
  | .id3hdr a b c d => 0x49443300000000000000 + a * 2 ^ 24 + b * 2 ^ 16 + c * 2 ^ 8 + d
  | .id3hdrAbsent => 0x000000
  | .sigXing => 0x58696E67
  | .sigInfo => 0x496E666F
  | .sigVbri => 0x56425249
  | .sig4None _ => 0x00000000
  | .phaseIdle => 0x0
  | .tagskip => 0x1
  | .walk => 0x2
  | .phaseDone => 0x3

/-- The bytes of an instruction, lowest offset first. -/
def encode (i : Instr) : List Byte := beBytes i.byteCount (encodeWord i)

/-- The instruction of an optional decoding. -/
def decodedInstr (r : Except DecodeError Instr) : Option Instr :=
  match r with
  | .ok i => some i
  | .error _ => none

/-- A 32-bit word is read as a signature when it is one of the three, else as a header: the table numbers `SIG4` and
`MPAHDR` words alike, and no signature is a header with sync (log 8). -/
def tableWord32 (bs : List Byte) : Option Instr :=
  if bs = asciiXing ∨ bs = asciiInfo then decodedInstr (decode (.sig4 .at36) bs)
  else if bs = asciiVbri then decodedInstr (decode (.sig4 .at40) bs)
  else decodedInstr (decode .mpahdr bs)

/-- The ten bytes of a tag word of `nbits` bits (24 or 80), first byte leftmost, the bytes beyond it zero. -/
def tagWordBytes (nbits w : Nat) : List Byte := beBytes 10 (w * 2 ^ (80 - nbits))

/-- What this decoder reads from a word of the opcode table: one byte is a PHASE code, four bytes a header or a
signature, three or ten bytes the leading tag. -/
def decodeTableWord (nbits w : Nat) : Option Instr :=
  if nbits ≤ 8 then decodedInstr (decode .phase (beBytes 1 w))
  else if nbits = 32 then tableWord32 (beBytes 4 w)
  else if nbits = 24 ∨ nbits = 80 then decodedInstr (decode .id3hdr (tagWordBytes nbits w))
  else none

end Sys2Proof
end

