-- ==== Sys2Proof/Machine/State.lean ====
section
/-! DEFINITION. The state of the block, of the host's memory behind its byte read port, and of the host's pending
moves; the reasons a step can stop; the state after reset. -/

namespace Sys2Proof.Machine

/-- The values of the phase register (10_state.md R27). -/
inductive Phase where
  | idle
  | tag
  | scan
  | done
deriving DecidableEq, Repr

/-- The 2-bit codes of R27, which is also what a read of STATUS gives (R37). -/
def Phase.code : Phase → BitVec 2
  | .idle => 0#2
  | .tag => 1#2
  | .scan => 2#2
  | .done => 3#2

/-- The phase of a 2-bit code (R27): every code has one. -/
def Phase.ofCode (c : BitVec 2) : Phase :=
  if c = 0#2 then .idle else if c = 1#2 then .tag else if c = 2#2 then .scan else .done

/-- The host registers (10_state.md R33). There is no other. -/
inductive HostReg where
  | start
  | lenIn
  | count
  | status
deriving DecidableEq, Repr

/-- The register numbers 0 to 3 (R33). -/
def HostReg.number : HostReg → Nat
  | .start => 0
  | .lenIn => 1
  | .count => 2
  | .status => 3

/-- What the host does between two steps of the block (R211, 70_reset_and_hazards.md R262), or its letting the block
take one step. A list of these in the state says which of the two moves next (log 3). -/
inductive HostMove where
  /-- The host does nothing and the block takes its step. -/
  | letBlock
  /-- A write of a host register (R33 to R37). -/
  | write (r : HostReg) (v : Nat)
  /-- A read of a host register (R33 to R37). -/
  | read (r : HostReg)
  /-- The host stores a byte in the memory behind the byte read port (R262). -/
  | place (offset : Nat) (b : Byte)
  /-- The hardware reset (R40, R260). -/
  | reset
deriving DecidableEq, Repr

/-- The memory behind the byte read port: bytes by zero-based offset, offsets rising, no entry equal to what an
unlisted offset reads as. -/
abbrev Memory := List Host.Cell

/-- The outcomes of a WALK step (30_encoding.md R97), the last two with the frame size they advance by. -/
inductive WalkOutcome where
  | exit
  | resync
  | skipMeta (frameSize : Nat)
  | accept (frameSize : Nat)
deriving DecidableEq, Repr

/-- The state. The first five fields are the block's own (R20); `lenIn` is host register 1 (R35); `mem` is the Byte
Sequence's memory, the host's (R20, R38: log 1); `inbox` and `readData` are the model's own (logs 3, 4). -/
structure State where
  /-- `PHASE` (R27). -/
  phase : Phase
  /-- `LEN` (R25). -/
  len : Nat
  /-- `CURSOR` (R21 to R23), the program counter. -/
  cursor : Nat
  /-- `COUNT` (R24). -/
  count : Nat
  /-- `SEEN` (R26), the only flag. -/
  seen : Bool
  /-- `LEN_IN` (R35). -/
  lenIn : Nat
  /-- The Byte Sequence's memory (R38, R50, R51). -/
  mem : Memory
  /-- The host's moves that have not happened yet, oldest first (log 3). -/
  inbox : List HostMove
  /-- What the last register read of the host returned (log 4). -/
  readData : Nat
deriving DecidableEq, Repr

/-- Reasons the machine stops with a fault. There are none: "No behaviour of the block is a fault or stuck state"
(93_implementation_defined.md Part A; 60_exceptions.md R230, R245). -/
inductive Fault where
deriving DecidableEq, Repr

/-- Reasons the model gives no meaning. Each is safe: nothing is claimed of what happens after it. -/
inductive Refusal where
  /-- An instruction with no meaning yet. No arm of `exec` raises it. Safe. -/
  | notModelled (mnemonic : String)
  /-- An operation was executed in a phase that does not enable it (R27, 40_tag_skipper.md R120, 43_frame_walker.md
  R191). Raised by the meanings of every row when PHASE is another; a step never raises it. Safe (log 6). -/
  | notEnabled
  /-- A launch with LEN_IN outside the width premise (R31, 60_exceptions.md R245: "a model refuses it"). Raised by an
  otherwise accepted START. Safe. -/
  | lenOutsidePremise
  /-- The host changed a byte of the Byte Sequence during a run (20_memory.md R55: a model refuses). Raised by a host
  store. Safe (log 12). -/
  | byteChangedDuringRun
deriving DecidableEq, Repr

/-- What a step or a meaning answers. -/
abbrev Result := Host.Outcome State Fault Refusal

/-- The state after reset (R40, R260). The memory lists nothing and no host move is pending (logs 1, 3, 4). -/
def State.reset : State :=
  { phase := .idle, len := 0, cursor := 0, count := 0, seen := false, lenIn := 0,
    mem := [], inbox := [], readData := 0 }

end Sys2Proof.Machine
end

