-- ==== Sys2Proof/Machine/Ops.lean ====
section
/-! DEFINITION. The named operations over the Byte Sequence's memory and over the registers.

The block has no exception to take: "There is no trap mechanism" (60_exceptions.md R237), and no return from one (R238).
Its one reaction to bytes it cannot decode is the RESYNC outcome, which is an ordinary register write here. -/

namespace Sys2Proof.Machine

/-- What an offset the host placed nothing at reads as. DESIGN CHOICE (log 1). -/
def unlistedByte : Byte := 0#8

/-- The byte at an offset of the memory behind the read port (10_state.md R38). -/
def Memory.read : Memory → Nat → Byte
  | [], _ => unlistedByte
  | (k, v) :: m, a => if a = k then v else Memory.read m a

/-- A host store of one byte, in canonical form. -/
def Memory.write : Memory → Nat → Byte → Memory
  | [], a, b => if b = unlistedByte then [] else [(a, b)]
  | (k, v) :: m, a, b =>
    if a < k then (if b = unlistedByte then (k, v) :: m else (a, b) :: (k, v) :: m)
    else if a = k then (if b = unlistedByte then m else (a, b) :: m)
    else (k, v) :: Memory.write m a b

/-- Every listed offset is at least `lo`, offsets rise strictly, and no listed byte is what an unlisted offset reads. -/
def Memory.wfFrom : Nat → Memory → Bool
  | _, [] => true
  | lo, (k, v) :: m => decide (lo ≤ k) && decide (v ≠ unlistedByte) && Memory.wfFrom (k + 1) m

/-- The canonical form of a memory. -/
def Memory.wf (m : Memory) : Bool := Memory.wfFrom 0 m

/-- The host's store of consecutive bytes from an offset on. -/
def Memory.writeAll : Memory → Nat → List Byte → Memory
  | m, _, [] => m
  | m, a, b :: bs => Memory.writeAll (m.write a b) (a + 1) bs

/-- `Byte(a)` (00_scope.md R14): the byte of the Byte Sequence of length `len` at `a`, or `absent` (`none`), with no
bus access, when `a` is not below `len` (20_memory.md R58). -/
def byteAt (B : Memory) (len a : Nat) : Option Byte :=
  if a < len then some (B.read a) else none

/-- The `n` bytes from `a` on, lowest offset first (20_memory.md R52). -/
def readBytes (B : Memory) (a : Nat) : Nat → List Byte
  | 0 => []
  | n + 1 => B.read a :: readBytes B (a + 1) n

/-- `MemRead(a, n)` (R14): all `n` bytes, or `absent` when any of them is not there (R58). -/
def memRead (B : Memory) (len a n : Nat) : Option (List Byte) :=
  if a + n ≤ len then some (readBytes B a n) else none

/-- The width premise of a launch (10_state.md R31). Written without subtraction. -/
def lenPremise (len : Nat) : Bool :=
  decide (Config.minRegWidth ≤ Config.regWidth) && decide (len + Config.maxFrameSize ≤ 2 ^ Config.regWidth)

/-- The register writes of an accepted START, atomically (10_state.md R34, 70_reset_and_hazards.md R261). -/
def State.launch (s : State) : State :=
  { s with len := s.lenIn, cursor := 0, count := 0, seen := false, phase := .tag }

/-- The register writes of the TAGSKIP step with Tag Skipper result `r` (40_tag_skipper.md R120). -/
def State.enterScan (s : State) (r : Nat) : State :=
  { s with cursor := r, phase := .scan }

/-- EXIT (43_frame_walker.md R193): PHASE and nothing else. -/
def State.exitRun (s : State) : State := { s with phase := .done }

/-- RESYNC (R194): CURSOR and nothing else. -/
def State.resync (s : State) : State := { s with cursor := s.cursor + 1 }

/-- SKIPMETA (R195): SEEN and CURSOR. -/
def State.skipMeta (s : State) (frameSize : Nat) : State :=
  { s with seen := true, cursor := s.cursor + frameSize }

/-- ACCEPT (R196): SEEN, COUNT and CURSOR. -/
def State.accept (s : State) (frameSize : Nat) : State :=
  { s with seen := true, count := s.count + 1, cursor := s.cursor + frameSize }

/-- The register writes of a WALK outcome, all together at the end of the step (R191, R210). -/
def State.applyOutcome (s : State) : WalkOutcome → State
  | .exit => s.exitRun
  | .resync => s.resync
  | .skipMeta n => s.skipMeta n
  | .accept n => s.accept n

/-- A write of LEN_IN (10_state.md R35): no effect on the latched LEN. -/
def State.setLenIn (s : State) (v : Nat) : State := { s with lenIn := v }

/-- A host store of a byte behind the read port. -/
def State.store (s : State) (a : Nat) (b : Byte) : State := { s with mem := s.mem.write a b }

/-- The value a register read returned to the host (log 4). -/
def State.answer (s : State) (v : Nat) : State := { s with readData := v }

/-- The oldest host move is taken off the list. -/
def State.popMove (s : State) (rest : List HostMove) : State := { s with inbox := rest }

/-- The hardware reset (R40, R260): the block's registers and LEN_IN at their reset values; what belongs to the host
(its memory, its pending moves, the value it last read) is not the block's to reset (log 5). -/
def State.hwReset (s : State) : State :=
  { State.reset with mem := s.mem, inbox := s.inbox, readData := s.readData }

end Sys2Proof.Machine
end

