-- ==== Sys2Proof/Machine/Operands.lean ====
section
/-! DEFINITION. What the steps compute from the bytes: the Tag Skipper's offset, the Frame Header Decoder, the
Metadata-Frame Detector. All are pure functions of the Byte Sequence, its length and an offset. -/

namespace Sys2Proof.Machine

/-- The tag size from its four digits, most significant first (30_encoding.md R91, 40_tag_skipper.md R123). -/
def tagSize (a b c d : Nat) : Nat := a * 2 ^ 21 + b * 2 ^ 14 + c * 2 ^ 7 + d

/-- The offset after a tag with these digits: not clamped to the length (R123, R125). -/
def tagOffset (a b c d : Nat) : Nat := Config.tagHeaderSize + tagSize a b c d

/-- `digit(a)` (R123, R124). -/
def sizeDigit (B : Memory) (len k : Nat) : Nat := digitOf (byteAt B len (Config.tagSizeFieldOffset + k))

/-- `skip_leading_tag(B, LEN)` (R121 to R125). -/
def skipLeadingTag (B : Memory) (len : Nat) : Nat :=
  if memRead B len 0 3 = some asciiId3 then
    tagOffset (sizeDigit B len 0) (sizeDigit B len 1) (sizeDigit B len 2) (sizeDigit B len 3)
  else 0

/-- The frame size (41_header_decoder.md R150): the full product, one floor division, then the padding. -/
def frameSize (kbps hz : Nat) (padding : Bool) : Nat :=
  Config.slotConstant * kbps * 1000 / hz + padding.toNat

/-- A ROM entry (10_state.md R29, R30, R32): `none` is the marker `invalid`. -/
def romEntry (rom : List (Option Nat)) (index : Nat) : Option Nat := rom.getD index none

/-- The frame size of a third header byte (R145, R146, R150): `none` when either index is `invalid`, before any
arithmetic (70_reset_and_hazards.md R276). -/
def sizeOfIndices (b2 : Byte) : Option Nat :=
  match romEntry Config.bitrateRom (bitrateIndexOf b2), romEntry Config.samplerateRom (samplerateIndexOf b2) with
  | some kbps, some hz => some (frameSize kbps hz (paddingOf b2))
  | _, _ => none

/-- The checks and look-ups of R140 on the bytes of a header; byte 3 is not examined (R148). -/
def headerSize (b0 b1 b2 : Byte) : Option Nat :=
  if hasSync b0 b1 then
    if versionIdOf b1 = Config.supportedVersion ∧ layerOf b1 = Config.supportedLayer then sizeOfIndices b2
    else none
  else none

/-- `HDRDEC(B, LEN, p)` (R140): `some frame_size_bytes`, or `none` for `invalid`. Fewer than four readable bytes are
`invalid` (R141); all causes of `invalid` are one (R147). -/
def hdrdec (B : Memory) (len p : Nat) : Option Nat :=
  match memRead B len p Config.headerBytes with
  | some [b0, b1, b2, _] => headerSize b0 b1 b2
  | _ => none

/-- The Xing/Info check (42_metadata_detector.md R171): an incomplete window does not match (R174). -/
def xingMatch (B : Memory) (len p : Nat) : Bool :=
  match memRead B len (p + Config.xingOffset) 4 with
  | some bs => decide (bs = asciiXing) || decide (bs = asciiInfo)
  | none => false

/-- The VBRI check (R172, R174). -/
def vbriMatch (B : Memory) (len p : Nat) : Bool :=
  match memRead B len (p + Config.vbriOffset) 4 with
  | some bs => decide (bs = asciiVbri)
  | none => false

/-- `VBRDET(B, LEN, p)` (R170): either check suffices (R173). -/
def vbrdet (B : Memory) (len p : Nat) : Bool := xingMatch B len p || vbriMatch B len p

/-- The header decoder at the state's Scan Cursor. -/
def State.candidate (s : State) : Option Nat := hdrdec s.mem s.len s.cursor

/-- The detector at the state's Scan Cursor. -/
def State.isMeta (s : State) : Bool := vbrdet s.mem s.len s.cursor

end Sys2Proof.Machine
end

