-- ==== Sys2Proof/Machine/Stream.lean ====
section
/-! DEFINITION. The byte-stream notation of 30_encoding.md R101 (the block's "assembler syntax"): each item as the list
of its bytes; a stream is their concatenation. -/

namespace Sys2Proof.Machine

/-- `ZERO(n)`. -/
def zeroBytes (n : Nat) : List Byte := List.replicate n 0x00#8

/-- `FILL(n, h)`. -/
def fillBytes (n : Nat) (h : Byte) : List Byte := List.replicate n h

/-- The ROM index of a rate, `bi` and `si` of R101. -/
def romIndex (rom : List (Option Nat)) (rate : Nat) : Nat := rom.idxOf (some rate)

/-- `HDR(kbps, Hz, pad)`: `FF FB hh 00`. -/
def hdrBytes (kbps hz : Nat) (padding : Bool) : List Byte :=
  [0xFF#8, 0xFB#8,
   BitVec.ofNat 8 (romIndex Config.bitrateRom kbps * 16 + romIndex Config.samplerateRom hz * 4 + padding.toNat * 2),
   0x00#8]

/-- `FRAME(kbps, Hz, pad)`. -/
def frameBytes (kbps hz : Nat) (padding : Bool) : List Byte :=
  hdrBytes kbps hz padding ++ zeroBytes (frameSize kbps hz padding - 4)

/-- `XINGFRAME(kbps, Hz, pad, tag)` with `tag` the bytes of `Xing` or `Info`. -/
def xingFrameBytes (kbps hz : Nat) (padding : Bool) (tag : List Byte) : List Byte :=
  hdrBytes kbps hz padding ++ zeroBytes 32 ++ tag ++ zeroBytes (frameSize kbps hz padding - 40)

/-- `VBRIFRAME(kbps, Hz, pad)`. -/
def vbriFrameBytes (kbps hz : Nat) (padding : Bool) : List Byte :=
  hdrBytes kbps hz padding ++ zeroBytes 36 ++ asciiVbri ++ zeroBytes (frameSize kbps hz padding - 44)

/-- One size digit of `ID3(S)`: `(S >> 7k) & 0x7F`. -/
def sizeByte (size k : Nat) : Byte := BitVec.ofNat 8 (size / 2 ^ (7 * k) % 128)

/-- `ID3(S)`. -/
def id3Bytes (size : Nat) : List Byte :=
  [0x49#8, 0x44#8, 0x33#8, 0x03#8, 0x00#8, 0x00#8, sizeByte size 3, sizeByte size 2, sizeByte size 1, sizeByte size 0]

/-- `TAG(S)`. -/
def tagBytes (size : Nat) : List Byte := id3Bytes size ++ zeroBytes size

/-- `TRUNC(item, n)`. -/
def truncBytes (item : List Byte) (n : Nat) : List Byte := item.take n

/-- A stream placed by the host at offset 0 (70_reset_and_hazards.md R262). -/
def loadStream (bs : List Byte) : Memory := Memory.writeAll [] 0 bs


end Sys2Proof.Machine
end

