-- ==== Sys2Proof/Machine/CountFrames.lean ====
section
/-! DEFINITION. `COUNT_FRAMES` as one function of the Byte Sequence and its length (43_frame_walker.md R197), beside
the steps that cut the same computation up. -/

namespace Sys2Proof.Machine

/-- The loop of R197 from a cursor, a count and a flag. Each pass moves the cursor forward by at least 1 and is made
only while CURSOR + 4 < LEN (R198), so `LEN` passes are enough; the fuel is those passes (log 17). -/
def countLoop (B : Memory) (len : Nat) : Nat → Nat → Nat → Bool → Nat
  | 0, _, count, _ => count
  | fuel + 1, cursor, count, seen =>
    if cursor + Config.headroom < len then
      match hdrdec B len cursor with
      | none => countLoop B len fuel (cursor + 1) count seen
      | some n =>
        if !seen && vbrdet B len cursor then countLoop B len fuel (cursor + n) count true
        else countLoop B len fuel (cursor + n) (count + 1) true
    else count

/-- `count_frames(B, LEN)`, also `count_frames_from_bytes` (R190, R197, R208). -/
def countFrames (B : Memory) (len : Nat) : Nat :=
  countLoop B len len (skipLeadingTag B len) 0 false

/-- `count_frames_from_bytes(data)` (R208): the count of a stream of bytes. -/
def countBytes (bs : List Byte) : Nat := countFrames (loadStream bs) bs.length

end Sys2Proof.Machine
end

