-- ==== Sys2Proof/Machine/Flags.lean ====
section
/-! DEFINITION. The conditions a step decides on, and the steps' shared bodies: which phase enables an operation, the
loop condition, the choice of a WALK outcome with the flag SEEN, the BUSY and DONE views of STATUS. -/

namespace Sys2Proof.Machine

/-- `BUSY` (10_state.md R33, R37). -/
def Phase.busy : Phase → Bool
  | .tag | .scan => true
  | .idle | .done => false

/-- `DONE` (R33, R37). -/
def Phase.isDone : Phase → Bool
  | .done => true
  | .idle | .tag | .scan => false

/-- The loop condition (43_frame_walker.md R192): strict, without subtraction (70_reset_and_hazards.md R270). -/
def State.inRange (s : State) : Bool := decide (s.cursor + Config.headroom < s.len)

/-- The outcome of a WALK step from what the candidate decodes to and the detector's verdict, in the order of
60_exceptions.md R236: the loop condition, then the header, then SEEN with the detector. -/
def State.outcome (s : State) (header : Option Nat) (isMeta : Bool) : WalkOutcome :=
  if s.inRange then
    match header with
    | none => .resync
    | some n => if !s.seen && isMeta then .skipMeta n else .accept n
  else .exit

/-- An operation is executed in the phase that enables it (10_state.md R27) and in no other (log 6). -/
def whenEnabled (p : Phase) (s : State) (t : State) : Result :=
  if s.phase = p then .next t else .refused .notEnabled

/-- A WALK step (R191) at a candidate that decodes to `header`, with the detector's verdict `isMeta`. -/
def walkOn (header : Option Nat) (isMeta : Bool) (s : State) : Result :=
  whenEnabled .scan s (s.applyOutcome (s.outcome header isMeta))

/-- A WALK step at a valid header of size `n`: the detector's verdict is read from the state's windows (R175). -/
def walkValidHeader (n : Nat) (s : State) : Result := walkOn (some n) s.isMeta s

/-- A WALK step at an `invalid` candidate (R87, R194): the detector is not consulted. -/
def walkInvalidHeader (s : State) : Result := walkOn none false s

/-- A WALK step at the state's own candidate, with the detector's verdict `isMeta`. -/
def walkWithVerdict (isMeta : Bool) (s : State) : Result := walkOn s.candidate isMeta s

/-- A TAGSKIP step (40_tag_skipper.md R120) with Tag Skipper result `r`. -/
def tagStep (r : Nat) (s : State) : Result := whenEnabled .tag s (s.enterScan r)

/-- A phase that enables no step (R27): the block stays as it is (70_reset_and_hazards.md R264: log 7). -/
def stand (p : Phase) (s : State) : Result := whenEnabled p s s

end Sys2Proof.Machine
end

