-- ==== Sys2Proof/Machine/Id3Hdr.lean ====
section
/-! DEFINITION. The meanings of the `ID3HDR` rows: the TAGSKIP step at a leading tag, and at none. -/

namespace Sys2Proof.Machine

/-- `ID3HDR` (40_tag_skipper.md R120, R123): CURSOR past the tag, PHASE <- SCAN. -/
def execId3hdr (a b c d : Nat) (s : State) : Result := tagStep (tagOffset a b c d) s

/-- `ID3HDR.ABSENT` (R122): CURSOR <- 0, PHASE <- SCAN. -/
def execId3hdrAbsent (s : State) : Result := tagStep 0 s

end Sys2Proof.Machine
end

