-- ==== Sys2Proof/Machine/MpaHdr.lean ====
section
/-! DEFINITION. The meanings of the `MPAHDR` rows: the WALK step at a candidate of that class (30_encoding.md R99: the
rows are the cases of HDRDEC; 43_frame_walker.md R191). A valid class carries its row's bitrate and rate into the
frame-size formula of R150; an invalid class resynchronises (R87, R194). -/

namespace Sys2Proof.Machine

/-- `L3.32K.44100` (R150, R195, R196): 32 kbps, 44100 Hz. -/
def execL3_32k_44100 (padding : Bool) (s : State) : Result :=
  walkValidHeader (frameSize 32 44100 padding) s

/-- `L3.32K.48000` (R150, R195, R196): 32 kbps, 48000 Hz. -/
def execL3_32k_48000 (padding : Bool) (s : State) : Result :=
  walkValidHeader (frameSize 32 48000 padding) s

/-- `L3.32K.32000` (R150, R195, R196): 32 kbps, 32000 Hz. -/
def execL3_32k_32000 (padding : Bool) (s : State) : Result :=
  walkValidHeader (frameSize 32 32000 padding) s

/-- `L3.40K.44100` (R150, R195, R196): 40 kbps, 44100 Hz. -/
def execL3_40k_44100 (padding : Bool) (s : State) : Result :=
  walkValidHeader (frameSize 40 44100 padding) s

/-- `L3.40K.48000` (R150, R195, R196): 40 kbps, 48000 Hz. -/
def execL3_40k_48000 (padding : Bool) (s : State) : Result :=
  walkValidHeader (frameSize 40 48000 padding) s

/-- `L3.40K.32000` (R150, R195, R196): 40 kbps, 32000 Hz. -/
def execL3_40k_32000 (padding : Bool) (s : State) : Result :=
  walkValidHeader (frameSize 40 32000 padding) s

/-- `L3.48K.44100` (R150, R195, R196): 48 kbps, 44100 Hz. -/
def execL3_48k_44100 (padding : Bool) (s : State) : Result :=
  walkValidHeader (frameSize 48 44100 padding) s

/-- `L3.48K.48000` (R150, R195, R196): 48 kbps, 48000 Hz. -/
def execL3_48k_48000 (padding : Bool) (s : State) : Result :=
  walkValidHeader (frameSize 48 48000 padding) s

/-- `L3.48K.32000` (R150, R195, R196): 48 kbps, 32000 Hz. -/
def execL3_48k_32000 (padding : Bool) (s : State) : Result :=
  walkValidHeader (frameSize 48 32000 padding) s

/-- `L3.56K.44100` (R150, R195, R196): 56 kbps, 44100 Hz. -/
def execL3_56k_44100 (padding : Bool) (s : State) : Result :=
  walkValidHeader (frameSize 56 44100 padding) s

/-- `L3.56K.48000` (R150, R195, R196): 56 kbps, 48000 Hz. -/
def execL3_56k_48000 (padding : Bool) (s : State) : Result :=
  walkValidHeader (frameSize 56 48000 padding) s

/-- `L3.56K.32000` (R150, R195, R196): 56 kbps, 32000 Hz. -/
def execL3_56k_32000 (padding : Bool) (s : State) : Result :=
  walkValidHeader (frameSize 56 32000 padding) s

/-- `L3.64K.44100` (R150, R195, R196): 64 kbps, 44100 Hz. -/
def execL3_64k_44100 (padding : Bool) (s : State) : Result :=
  walkValidHeader (frameSize 64 44100 padding) s

/-- `L3.64K.48000` (R150, R195, R196): 64 kbps, 48000 Hz. -/
def execL3_64k_48000 (padding : Bool) (s : State) : Result :=
  walkValidHeader (frameSize 64 48000 padding) s

/-- `L3.64K.32000` (R150, R195, R196): 64 kbps, 32000 Hz. -/
def execL3_64k_32000 (padding : Bool) (s : State) : Result :=
  walkValidHeader (frameSize 64 32000 padding) s

/-- `L3.80K.44100` (R150, R195, R196): 80 kbps, 44100 Hz. -/
def execL3_80k_44100 (padding : Bool) (s : State) : Result :=
  walkValidHeader (frameSize 80 44100 padding) s

/-- `L3.80K.48000` (R150, R195, R196): 80 kbps, 48000 Hz. -/
def execL3_80k_48000 (padding : Bool) (s : State) : Result :=
  walkValidHeader (frameSize 80 48000 padding) s

/-- `L3.80K.32000` (R150, R195, R196): 80 kbps, 32000 Hz. -/
def execL3_80k_32000 (padding : Bool) (s : State) : Result :=
  walkValidHeader (frameSize 80 32000 padding) s

/-- `L3.96K.44100` (R150, R195, R196): 96 kbps, 44100 Hz. -/
def execL3_96k_44100 (padding : Bool) (s : State) : Result :=
  walkValidHeader (frameSize 96 44100 padding) s

/-- `L3.96K.48000` (R150, R195, R196): 96 kbps, 48000 Hz. -/
def execL3_96k_48000 (padding : Bool) (s : State) : Result :=
  walkValidHeader (frameSize 96 48000 padding) s

/-- `L3.96K.32000` (R150, R195, R196): 96 kbps, 32000 Hz. -/
def execL3_96k_32000 (padding : Bool) (s : State) : Result :=
  walkValidHeader (frameSize 96 32000 padding) s

/-- `L3.112K.44100` (R150, R195, R196): 112 kbps, 44100 Hz. -/
def execL3_112k_44100 (padding : Bool) (s : State) : Result :=
  walkValidHeader (frameSize 112 44100 padding) s

/-- `L3.112K.48000` (R150, R195, R196): 112 kbps, 48000 Hz. -/
def execL3_112k_48000 (padding : Bool) (s : State) : Result :=
  walkValidHeader (frameSize 112 48000 padding) s

/-- `L3.112K.32000` (R150, R195, R196): 112 kbps, 32000 Hz. -/
def execL3_112k_32000 (padding : Bool) (s : State) : Result :=
  walkValidHeader (frameSize 112 32000 padding) s

/-- `L3.128K.44100` (R150, R195, R196): 128 kbps, 44100 Hz. -/
def execL3_128k_44100 (padding : Bool) (s : State) : Result :=
  walkValidHeader (frameSize 128 44100 padding) s

/-- `L3.128K.48000` (R150, R195, R196): 128 kbps, 48000 Hz. -/
def execL3_128k_48000 (padding : Bool) (s : State) : Result :=
  walkValidHeader (frameSize 128 48000 padding) s

/-- `L3.128K.32000` (R150, R195, R196): 128 kbps, 32000 Hz. -/
def execL3_128k_32000 (padding : Bool) (s : State) : Result :=
  walkValidHeader (frameSize 128 32000 padding) s

/-- `L3.160K.44100` (R150, R195, R196): 160 kbps, 44100 Hz. -/
def execL3_160k_44100 (padding : Bool) (s : State) : Result :=
  walkValidHeader (frameSize 160 44100 padding) s

/-- `L3.160K.48000` (R150, R195, R196): 160 kbps, 48000 Hz. -/
def execL3_160k_48000 (padding : Bool) (s : State) : Result :=
  walkValidHeader (frameSize 160 48000 padding) s

/-- `L3.160K.32000` (R150, R195, R196): 160 kbps, 32000 Hz. -/
def execL3_160k_32000 (padding : Bool) (s : State) : Result :=
  walkValidHeader (frameSize 160 32000 padding) s

/-- `L3.192K.44100` (R150, R195, R196): 192 kbps, 44100 Hz. -/
def execL3_192k_44100 (padding : Bool) (s : State) : Result :=
  walkValidHeader (frameSize 192 44100 padding) s

/-- `L3.192K.48000` (R150, R195, R196): 192 kbps, 48000 Hz. -/
def execL3_192k_48000 (padding : Bool) (s : State) : Result :=
  walkValidHeader (frameSize 192 48000 padding) s

/-- `L3.192K.32000` (R150, R195, R196): 192 kbps, 32000 Hz. -/
def execL3_192k_32000 (padding : Bool) (s : State) : Result :=
  walkValidHeader (frameSize 192 32000 padding) s

/-- `L3.224K.44100` (R150, R195, R196): 224 kbps, 44100 Hz. -/
def execL3_224k_44100 (padding : Bool) (s : State) : Result :=
  walkValidHeader (frameSize 224 44100 padding) s

/-- `L3.224K.48000` (R150, R195, R196): 224 kbps, 48000 Hz. -/
def execL3_224k_48000 (padding : Bool) (s : State) : Result :=
  walkValidHeader (frameSize 224 48000 padding) s

/-- `L3.224K.32000` (R150, R195, R196): 224 kbps, 32000 Hz. -/
def execL3_224k_32000 (padding : Bool) (s : State) : Result :=
  walkValidHeader (frameSize 224 32000 padding) s

/-- `L3.256K.44100` (R150, R195, R196): 256 kbps, 44100 Hz. -/
def execL3_256k_44100 (padding : Bool) (s : State) : Result :=
  walkValidHeader (frameSize 256 44100 padding) s

/-- `L3.256K.48000` (R150, R195, R196): 256 kbps, 48000 Hz. -/
def execL3_256k_48000 (padding : Bool) (s : State) : Result :=
  walkValidHeader (frameSize 256 48000 padding) s

/-- `L3.256K.32000` (R150, R195, R196): 256 kbps, 32000 Hz. -/
def execL3_256k_32000 (padding : Bool) (s : State) : Result :=
  walkValidHeader (frameSize 256 32000 padding) s

/-- `L3.320K.44100` (R150, R195, R196): 320 kbps, 44100 Hz. -/
def execL3_320k_44100 (padding : Bool) (s : State) : Result :=
  walkValidHeader (frameSize 320 44100 padding) s

/-- `L3.320K.48000` (R150, R195, R196): 320 kbps, 48000 Hz. -/
def execL3_320k_48000 (padding : Bool) (s : State) : Result :=
  walkValidHeader (frameSize 320 48000 padding) s

/-- `L3.320K.32000` (R150, R195, R196): 320 kbps, 32000 Hz. -/
def execL3_320k_32000 (padding : Bool) (s : State) : Result :=
  walkValidHeader (frameSize 320 32000 padding) s

/-- `INVALID.VERSION0` (R87, R194): sync present, version = 0. -/
def execInvalidVersion0 (s : State) : Result := walkInvalidHeader s

/-- `INVALID.VERSION1` (R87, R194): sync present, version = 1. -/
def execInvalidVersion1 (s : State) : Result := walkInvalidHeader s

/-- `INVALID.VERSION2` (R87, R194): sync present, version = 2. -/
def execInvalidVersion2 (s : State) : Result := walkInvalidHeader s

/-- `INVALID.LAYER0` (R87, R194): sync, version = 3, layer = 0. -/
def execInvalidLayer0 (s : State) : Result := walkInvalidHeader s

/-- `INVALID.LAYER2` (R87, R194): sync, version = 3, layer = 2. -/
def execInvalidLayer2 (s : State) : Result := walkInvalidHeader s

/-- `INVALID.LAYER3` (R87, R194): sync, version = 3, layer = 3. -/
def execInvalidLayer3 (s : State) : Result := walkInvalidHeader s

/-- `INVALID.BITRATE_FREE` (R87, R194): sync, version 3, layer 1, bitrate_index = 0. -/
def execInvalidBitrateFree (s : State) : Result := walkInvalidHeader s

/-- `INVALID.BITRATE_RSVD` (R87, R194): sync, version 3, layer 1, bitrate_index = 15. -/
def execInvalidBitrateRsvd (s : State) : Result := walkInvalidHeader s

/-- `INVALID.SAMPLERATE_RSVD` (R87, R194): sync, version 3, layer 1, samplerate_index = 3. -/
def execInvalidSamplerateRsvd (s : State) : Result := walkInvalidHeader s

/-- `INVALID.NOSYNC` (R87, R194): default, lowest priority: byte 0 ≠ 0xFF or byte1 & 0xE0 ≠ 0xE0. -/
def execInvalidNosync (s : State) : Result := walkInvalidHeader s

end Sys2Proof.Machine
end

