-- ==== Sys2Proof/Machine/PhaseOps.lean ====
section
/-! DEFINITION. The meanings of the `PHASE` rows: the two steps of the state machine and the two phases that enable
none (10_state.md R27, 30_encoding.md R96). -/

namespace Sys2Proof.Machine

/-- `PHASE.IDLE` (R27): no step is enabled; the host may START. -/
def execPhaseIdle (s : State) : Result := stand .idle s

/-- `TAGSKIP` (40_tag_skipper.md R120). -/
def execTagskip (s : State) : Result := tagStep (skipLeadingTag s.mem s.len) s

/-- `WALK` (43_frame_walker.md R191). -/
def execWalk (s : State) : Result := walkOn s.candidate s.isMeta s

/-- `PHASE.DONE` (R27, 70_reset_and_hazards.md R264): no step is enabled; COUNT is the result. -/
def execPhaseDone (s : State) : Result := stand .done s

end Sys2Proof.Machine
end

