-- ==== Sys2Proof/Machine/Sig4.lean ====
section
/-! DEFINITION. The meanings of the `SIG4` rows: the WALK step at the state's candidate when one of the detector's
windows holds that row's bytes (30_encoding.md R99: the rows are the cases of VBRDET; 42_metadata_detector.md R170,
R173, R177). A match of one window settles the verdict; no match at one window leaves it to the other (log 8). -/

namespace Sys2Proof.Machine

/-- `SIG.XING` (R171): VBRDET true. -/
def execSigXing (s : State) : Result := walkWithVerdict true s

/-- `SIG.INFO` (R171): VBRDET true. -/
def execSigInfo (s : State) : Result := walkWithVerdict true s

/-- `SIG.VBRI` (R172): VBRDET true. -/
def execSigVbri (s : State) : Result := walkWithVerdict true s

/-- `SIG4.NONE` (R170, R174): no match at this window, so the verdict is the other window's. -/
def execSig4None (w : SigWindow) (s : State) : Result :=
  match w with
  | .at36 => walkWithVerdict (vbriMatch s.mem s.len s.cursor) s
  | .at40 => walkWithVerdict (xingMatch s.mem s.len s.cursor) s

end Sys2Proof.Machine
end

