-- ==== Sys2Proof/Machine/Dispatch.lean ====
section
/-! DEFINITION. One arm per row of the opcode table. -/

namespace Sys2Proof.Machine

def exec (i : Instr) (s : State) : Host.Outcome State Fault Refusal :=
  match i with
  | .l3_32k_44100 padding => Sys2Proof.Machine.execL3_32k_44100 padding s
  | .l3_32k_48000 padding => Sys2Proof.Machine.execL3_32k_48000 padding s
  | .l3_32k_32000 padding => Sys2Proof.Machine.execL3_32k_32000 padding s
  | .l3_40k_44100 padding => Sys2Proof.Machine.execL3_40k_44100 padding s
  | .l3_40k_48000 padding => Sys2Proof.Machine.execL3_40k_48000 padding s
  | .l3_40k_32000 padding => Sys2Proof.Machine.execL3_40k_32000 padding s
  | .l3_48k_44100 padding => Sys2Proof.Machine.execL3_48k_44100 padding s
  | .l3_48k_48000 padding => Sys2Proof.Machine.execL3_48k_48000 padding s
  | .l3_48k_32000 padding => Sys2Proof.Machine.execL3_48k_32000 padding s
  | .l3_56k_44100 padding => Sys2Proof.Machine.execL3_56k_44100 padding s
  | .l3_56k_48000 padding => Sys2Proof.Machine.execL3_56k_48000 padding s
  | .l3_56k_32000 padding => Sys2Proof.Machine.execL3_56k_32000 padding s
  | .l3_64k_44100 padding => Sys2Proof.Machine.execL3_64k_44100 padding s
  | .l3_64k_48000 padding => Sys2Proof.Machine.execL3_64k_48000 padding s
  | .l3_64k_32000 padding => Sys2Proof.Machine.execL3_64k_32000 padding s
  | .l3_80k_44100 padding => Sys2Proof.Machine.execL3_80k_44100 padding s
  | .l3_80k_48000 padding => Sys2Proof.Machine.execL3_80k_48000 padding s
  | .l3_80k_32000 padding => Sys2Proof.Machine.execL3_80k_32000 padding s
  | .l3_96k_44100 padding => Sys2Proof.Machine.execL3_96k_44100 padding s
  | .l3_96k_48000 padding => Sys2Proof.Machine.execL3_96k_48000 padding s
  | .l3_96k_32000 padding => Sys2Proof.Machine.execL3_96k_32000 padding s
  | .l3_112k_44100 padding => Sys2Proof.Machine.execL3_112k_44100 padding s
  | .l3_112k_48000 padding => Sys2Proof.Machine.execL3_112k_48000 padding s
  | .l3_112k_32000 padding => Sys2Proof.Machine.execL3_112k_32000 padding s
  | .l3_128k_44100 padding => Sys2Proof.Machine.execL3_128k_44100 padding s
  | .l3_128k_48000 padding => Sys2Proof.Machine.execL3_128k_48000 padding s
  | .l3_128k_32000 padding => Sys2Proof.Machine.execL3_128k_32000 padding s
  | .l3_160k_44100 padding => Sys2Proof.Machine.execL3_160k_44100 padding s
  | .l3_160k_48000 padding => Sys2Proof.Machine.execL3_160k_48000 padding s
  | .l3_160k_32000 padding => Sys2Proof.Machine.execL3_160k_32000 padding s
  | .l3_192k_44100 padding => Sys2Proof.Machine.execL3_192k_44100 padding s
  | .l3_192k_48000 padding => Sys2Proof.Machine.execL3_192k_48000 padding s
  | .l3_192k_32000 padding => Sys2Proof.Machine.execL3_192k_32000 padding s
  | .l3_224k_44100 padding => Sys2Proof.Machine.execL3_224k_44100 padding s
  | .l3_224k_48000 padding => Sys2Proof.Machine.execL3_224k_48000 padding s
  | .l3_224k_32000 padding => Sys2Proof.Machine.execL3_224k_32000 padding s
  | .l3_256k_44100 padding => Sys2Proof.Machine.execL3_256k_44100 padding s
  | .l3_256k_48000 padding => Sys2Proof.Machine.execL3_256k_48000 padding s
  | .l3_256k_32000 padding => Sys2Proof.Machine.execL3_256k_32000 padding s
  | .l3_320k_44100 padding => Sys2Proof.Machine.execL3_320k_44100 padding s
  | .l3_320k_48000 padding => Sys2Proof.Machine.execL3_320k_48000 padding s
  | .l3_320k_32000 padding => Sys2Proof.Machine.execL3_320k_32000 padding s
  | .invalidVersion0 => Sys2Proof.Machine.execInvalidVersion0 s
  | .invalidVersion1 => Sys2Proof.Machine.execInvalidVersion1 s
  | .invalidVersion2 => Sys2Proof.Machine.execInvalidVersion2 s
  | .invalidLayer0 => Sys2Proof.Machine.execInvalidLayer0 s
  | .invalidLayer2 => Sys2Proof.Machine.execInvalidLayer2 s
  | .invalidLayer3 => Sys2Proof.Machine.execInvalidLayer3 s
  | .invalidBitrateFree => Sys2Proof.Machine.execInvalidBitrateFree s
  | .invalidBitrateRsvd => Sys2Proof.Machine.execInvalidBitrateRsvd s
  | .invalidSamplerateRsvd => Sys2Proof.Machine.execInvalidSamplerateRsvd s
  | .invalidNosync => Sys2Proof.Machine.execInvalidNosync s
  | .id3hdr a b c d => Sys2Proof.Machine.execId3hdr a b c d s
  | .id3hdrAbsent => Sys2Proof.Machine.execId3hdrAbsent s
  | .sigXing => Sys2Proof.Machine.execSigXing s
  | .sigInfo => Sys2Proof.Machine.execSigInfo s
  | .sigVbri => Sys2Proof.Machine.execSigVbri s
  | .sig4None w => Sys2Proof.Machine.execSig4None w s
  | .phaseIdle => Sys2Proof.Machine.execPhaseIdle s
  | .tagskip => Sys2Proof.Machine.execTagskip s
  | .walk => Sys2Proof.Machine.execWalk s
  | .phaseDone => Sys2Proof.Machine.execPhaseDone s

end Sys2Proof.Machine
end

