-- ==== Sys2Proof/Machine/Fetch.lean ====
section
/-! DEFINITION. What the next step of the block runs, the byte windows the formats are read from, and how the words of
an instruction are laid out where a step reads them. -/

namespace Sys2Proof.Machine

/-- The step that PHASE selects (30_encoding.md R96, 10_state.md R27). -/
def State.phaseOp (s : State) : Instr := phaseClass s.phase.code

/-- The bytes at the Scan Cursor that a WALK step examines as a header candidate (20_memory.md R54). -/
def State.headerBytes (s : State) : List Byte := readBytes s.mem s.cursor Config.headerBytes

/-- As many of the ten bytes of the leading tag header as exist (R54, R58). -/
def State.tagBytes (s : State) : List Byte := readBytes s.mem 0 (min s.len Config.tagHeaderSize)

/-- Where a detector window starts, relative to the frame (30_encoding.md R94). -/
def windowOffset (w : SigWindow) : Nat :=
  match w with
  | .at36 => Config.xingOffset
  | .at40 => Config.vbriOffset

/-- The bytes of a detector window at the Scan Cursor: none of them when the window is not wholly inside the buffer
(R174). -/
def State.windowBytes (s : State) (w : SigWindow) : List Byte :=
  (memRead s.mem s.len (s.cursor + windowOffset w) 4).getD []

/-- A run in SCAN whose candidate is these bytes: they stand at CURSOR, with the five bytes a candidate needs (R192). -/
def State.withCandidate (s : State) (bs : List Byte) : State :=
  { s with phase := .scan, len := max s.len (s.cursor + 5), mem := s.mem.writeAll s.cursor bs, inbox := [] }

/-- A run in SCAN whose first valid header, at CURSOR, has these bytes in a detector window; both windows are inside
the buffer. -/
def State.withSignature (s : State) (w : SigWindow) (bs : List Byte) : State :=
  { s with
    phase := .scan, seen := false, len := max s.len (s.cursor + 44),
    mem := (s.mem.writeAll s.cursor [0xFF#8, 0xFB#8, 0x90#8, 0x00#8]).writeAll (s.cursor + windowOffset w) bs,
    inbox := [] }

/-- A run in TAG whose Byte Sequence begins with these bytes. -/
def State.withTag (s : State) (bs : List Byte) : State :=
  { s with phase := .tag, len := max s.len Config.tagHeaderSize, mem := s.mem.writeAll 0 bs, inbox := [] }

/-- A run whose next step is the one a PHASE code selects. -/
def State.withPhase (s : State) (code : Nat) : State :=
  { s with phase := Phase.ofCode (BitVec.ofNat 2 code), inbox := [] }

/-- A 32-bit word of the table, laid out as `tableWord32` reads it. -/
def State.withWord32 (s : State) (bs : List Byte) : State :=
  if bs = asciiXing ∨ bs = asciiInfo then s.withSignature .at36 bs
  else if bs = asciiVbri then s.withSignature .at40 bs
  else s.withCandidate bs

/-- The word of a table row, where the next step reads it. -/
def State.withTableWord (s : State) (nbits w : Nat) : State :=
  if nbits ≤ 8 then s.withPhase w
  else if nbits = 32 then s.withWord32 (beBytes 4 w)
  else s.withTag (tagWordBytes nbits w)

end Sys2Proof.Machine
end

