-- ==== Sys2Proof/Machine/HostPort.lean ====
section
/-! DEFINITION. The host's side of the interface: the four registers, stores behind the byte read port, the hardware
reset (10_state.md R33 to R40). Each is one move between two steps of the block. -/

namespace Sys2Proof.Machine

/-- What a read of a host register returns (R33 to R37): START reads as 0. -/
def hostRead (r : HostReg) (s : State) : Nat :=
  match r with
  | .start => 0
  | .lenIn => s.lenIn
  | .count => s.count
  | .status => s.phase.code.toNat

/-- A START with GO = 1 (R34): ignored while busy; a launch outside the width premise is refused (R31). -/
def hostGo (s : State) : Result :=
  if s.phase.busy then .next s
  else if lenPremise s.lenIn then .next s.launch
  else .refused .lenOutsidePremise

/-- A write of a host register. START's only bit is GO, bit 0 (R33, R34); COUNT and STATUS are read-only, a write of
them does nothing (R33, R37: log 11). -/
def hostWrite (r : HostReg) (v : Nat) (s : State) : Result :=
  match r with
  | .start => if v % 2 = 1 then hostGo s else .next s
  | .lenIn => .next (s.setLenIn v)
  | .count => .next s
  | .status => .next s

/-- A store of the host's. During a run no byte of the Byte Sequence may change (20_memory.md R55): a store that would
change one is refused; any other is done (log 12). -/
def hostStore (a : Nat) (b : Byte) (s : State) : Result :=
  if s.phase.busy && decide (a < s.len) && decide (b ≠ s.mem.read a) then .refused .byteChangedDuringRun
  else .next (s.store a b)

end Sys2Proof.Machine
end

