-- ==== Sys2Proof/Machine/Step.lean ====
section
/-! DEFINITION. One step: the oldest pending move of the host, or, when the host lets the block move or has nothing
pending, the block's own step. -/

namespace Sys2Proof.Machine

/-- One step of the block: the operation PHASE selects (10_state.md R27, 43_frame_walker.md R210). -/
def blockStep (s : State) : Host.Outcome State Fault Refusal := exec s.phaseOp s

/-- One move of the host, or its letting the block take a step. -/
def hostStep (m : HostMove) (s : State) : Host.Outcome State Fault Refusal :=
  match m with
  | .letBlock => blockStep s
  | .write r v => hostWrite r v s
  | .read r => .next (s.answer (hostRead r s))
  | .place a b => hostStore a b s
  | .reset => .next s.hwReset

/-- One step of the machine. -/
def step (s : State) : Host.Outcome State Fault Refusal :=
  match s.inbox with
  | [] => blockStep s
  | m :: rest => hostStep m (s.popMove rest)

/-- The state with a table row's word where the next step reads it (log 16). -/
def State.withFetchWord (s : State) (nbits w : Nat) : State := s.withTableWord nbits w

end Sys2Proof.Machine
end

