-- ==== Sys2Proof/Safety.lean ====
section
/-! DEFINITION. The terms claims are made in: the rows as the spec's own tables list them, a started run, the invariant
every step keeps, and the state a result holds. -/

namespace Sys2Proof.Machine

/-- The next state of a result, if it is one. -/
def nextOf (r : Result) : Option State :=
  match r with
  | .next s => some s
  | .fault _ => none
  | .refused _ => none

/-- One row of 41_header_decoder.md R151: a valid class with its two indices and its frame size without padding. -/
structure SizeRow where
  instr : Bool → Instr
  bitrateIndex : Nat
  samplerateIndex : Nat
  size : Nat

/-- R151, the column of 44100 Hz. -/
def sizeColumn44100 : List SizeRow :=
  [⟨.l3_32k_44100, 1, 0, 104⟩, ⟨.l3_40k_44100, 2, 0, 130⟩, ⟨.l3_48k_44100, 3, 0, 156⟩,
   ⟨.l3_56k_44100, 4, 0, 182⟩, ⟨.l3_64k_44100, 5, 0, 208⟩, ⟨.l3_80k_44100, 6, 0, 261⟩,
   ⟨.l3_96k_44100, 7, 0, 313⟩, ⟨.l3_112k_44100, 8, 0, 365⟩, ⟨.l3_128k_44100, 9, 0, 417⟩,
   ⟨.l3_160k_44100, 10, 0, 522⟩, ⟨.l3_192k_44100, 11, 0, 626⟩, ⟨.l3_224k_44100, 12, 0, 731⟩,
   ⟨.l3_256k_44100, 13, 0, 835⟩, ⟨.l3_320k_44100, 14, 0, 1044⟩]

/-- R151, the column of 48000 Hz. -/
def sizeColumn48000 : List SizeRow :=
  [⟨.l3_32k_48000, 1, 1, 96⟩, ⟨.l3_40k_48000, 2, 1, 120⟩, ⟨.l3_48k_48000, 3, 1, 144⟩,
   ⟨.l3_56k_48000, 4, 1, 168⟩, ⟨.l3_64k_48000, 5, 1, 192⟩, ⟨.l3_80k_48000, 6, 1, 240⟩,
   ⟨.l3_96k_48000, 7, 1, 288⟩, ⟨.l3_112k_48000, 8, 1, 336⟩, ⟨.l3_128k_48000, 9, 1, 384⟩,
   ⟨.l3_160k_48000, 10, 1, 480⟩, ⟨.l3_192k_48000, 11, 1, 576⟩, ⟨.l3_224k_48000, 12, 1, 672⟩,
   ⟨.l3_256k_48000, 13, 1, 768⟩, ⟨.l3_320k_48000, 14, 1, 960⟩]

/-- R151, the column of 32000 Hz. -/
def sizeColumn32000 : List SizeRow :=
  [⟨.l3_32k_32000, 1, 2, 144⟩, ⟨.l3_40k_32000, 2, 2, 180⟩, ⟨.l3_48k_32000, 3, 2, 216⟩,
   ⟨.l3_56k_32000, 4, 2, 252⟩, ⟨.l3_64k_32000, 5, 2, 288⟩, ⟨.l3_80k_32000, 6, 2, 360⟩,
   ⟨.l3_96k_32000, 7, 2, 432⟩, ⟨.l3_112k_32000, 8, 2, 504⟩, ⟨.l3_128k_32000, 9, 2, 576⟩,
   ⟨.l3_160k_32000, 10, 2, 720⟩, ⟨.l3_192k_32000, 11, 2, 864⟩, ⟨.l3_224k_32000, 12, 2, 1008⟩,
   ⟨.l3_256k_32000, 13, 2, 1152⟩, ⟨.l3_320k_32000, 14, 2, 1440⟩]

/-- The 42 valid classes of R151. -/
def sizeTable : List SizeRow := sizeColumn44100 ++ sizeColumn48000 ++ sizeColumn32000

/-- The ten `invalid` classes of 30_encoding.md R87. -/
def invalidRows : List Instr :=
  [.invalidVersion0, .invalidVersion1, .invalidVersion2, .invalidLayer0, .invalidLayer2, .invalidLayer3,
   .invalidBitrateFree, .invalidBitrateRsvd, .invalidSamplerateRsvd, .invalidNosync]

/-- The three signature rows of R93. -/
def signatureRows : List Instr := [.sigXing, .sigInfo, .sigVbri]

/-- The bitrates of 10_state.md R29 by index, written out again for claims (log 13). -/
def bitrateRows : List (Nat × Nat) :=
  [(1, 32), (2, 40), (3, 48), (4, 56), (5, 64), (6, 80), (7, 96), (8, 112),
   (9, 128), (10, 160), (11, 192), (12, 224), (13, 256), (14, 320)]

/-- The sample rates of R30 by index (log 14). -/
def samplerateRows : List (Nat × Nat) := [(0, 44100), (1, 48000), (2, 32000)]

/-- A bitrate and a sample rate that some valid class has (R29, R30; logs 13, 14). -/
abbrev RateOk (kbps hz : Nat) : Prop := kbps ∈ bitrateRows.map Prod.snd ∧ hz ∈ samplerateRows.map Prod.snd

/-- `be32` (00_scope.md R14): four bytes as a word, byte 0 in bits 31:24. -/
def be32 (b0 b1 b2 b3 : Byte) : BitVec 32 := b0 ++ b1 ++ b2 ++ b3

/-- The phase an operation is enabled in (10_state.md R27): the tag rows and TAGSKIP in TAG, the header and signature
rows and WALK in SCAN. -/
def enabledIn (i : Instr) : Phase :=
  match i.format with
  | .mpahdr => .scan
  | .id3hdr => .tag
  | .sig4 _ => .scan
  | .phase => Phase.ofCode (BitVec.ofNat 2 (encodeWord i))

/-- The state a run starts in (10_state.md R34): right after an accepted START. -/
structure Started (s : State) : Prop where
  inTag : s.phase = .tag
  atZero : s.cursor = 0
  noneCounted : s.count = 0
  noneSeen : s.seen = false

/-- Two memories hold the same Byte Sequence of length `len`. -/
def SameBytes (B B' : Memory) (len : Nat) : Prop := ∀ a, a < len → B.read a = B'.read a

/-- A safe state: what holds after reset and after every step from such a state. -/
structure Inv (s : State) : Prop where
  /-- The memory is in canonical form. -/
  memCanonical : s.mem.wf = true
  /-- The latched LEN is within the width premise (10_state.md R31). -/
  lenInPremise : lenPremise s.len = true
  /-- IDLE is the reset state of the block's registers (R40): no run has been started. -/
  idleIsReset : s.phase = .idle → s.len = 0 ∧ s.cursor = 0 ∧ s.count = 0 ∧ s.seen = false
  /-- TAG is the state an accepted START leaves (R34). -/
  tagIsFresh : s.phase = .tag → s.cursor = 0 ∧ s.count = 0 ∧ s.seen = false
  /-- `SEEN = 0` implies `COUNT = 0` (43_frame_walker.md R199). -/
  unseenUncounted : s.seen = false → s.count = 0
  /-- CURSOR is at most the largest tag offset, or passes LEN by at most 1436 (R10, 70_reset_and_hazards.md R271). -/
  cursorBounded : s.cursor ≤ max 268435465 (s.len + 1436)
  /-- Each counted frame moved CURSOR by at least 96 (10_state.md R24). -/
  countBounded : 96 * s.count ≤ s.cursor
  /-- The last counted header stood below LEN - 4 (R24). -/
  lastFrameInside : s.count = 0 ∨ 96 * (s.count - 1) + 4 < s.len
  /-- A run is done only when no candidate is left (43_frame_walker.md R193). -/
  doneIsPastEnd : s.phase = .done → s.len ≤ s.cursor + 4

end Sys2Proof.Machine
end

