-- ==== Sys2Proof/Certificates/Slice0/Obligations.lean ====
section
/-! DEFINITION. The statements for the provers. -/

open Sys2Proof Sys2Proof.Machine

/-- No operand bit of any row is lost between encoder and decoder (30_encoding.md sections 2, 4, 5, 7). -/
def Obligations.DecodeEncodeRoundTrip : Prop :=
  ∀ i : Instr, i.wf = true → decode i.format (encode i) = .ok i

/-- Words of R155, R87, R93, R101 (ID3(257)), R27, written out from the spec. The class names of the index rows follow log 9; the table numbering is log 8; the signature codes are log 15 (PRESUMED). -/
def Obligations.SpecWordsDecode : Prop :=
  decodeTableWord 32 0xFFFB9000 = some (.l3_128k_44100 false) ∧
  decodeTableWord 32 0xFFFB9200 = some (.l3_128k_44100 true) ∧
  decodeTableWord 32 0xFFFA9000 = some (.l3_128k_44100 false) ∧
  decodeTableWord 32 0xFFFBEA00 = some (.l3_320k_32000 true) ∧
  decodeTableWord 32 0xFFF39000 = some .invalidVersion2 ∧
  decodeTableWord 32 0xFFFD9000 = some .invalidLayer2 ∧
  decodeTableWord 32 0xFFFBF000 = some .invalidBitrateRsvd ∧
  decodeTableWord 32 0xFFFB9C00 = some .invalidSamplerateRsvd ∧
  decodeTableWord 32 0xFEFB9000 = some .invalidNosync ∧
  decodeTableWord 80 0x49443303000000000201 = some (.id3hdr 0 0 2 1) ∧
  decodeTableWord 24 0x696433 = some .id3hdrAbsent ∧
  decodeTableWord 32 0x58696E67 = some .sigXing ∧
  decodeTableWord 32 0x496E666F = some .sigInfo ∧
  decodeTableWord 32 0x56425249 = some .sigVbri ∧
  decodeTableWord 8 1 = some .tagskip ∧
  decodeTableWord 8 2 = some .walk

/-- R84 (which the spec marks as derived from R81, R142 and R143). -/
def Obligations.SyncVersionLayerIsOneCompare : Prop :=
  ∀ b0 b1 b2 b3 : Byte,
    ((hasSync b0 b1 = true ∧ versionIdOf b1 = 3 ∧ layerOf b1 = 1) ↔ (b0 = 0xFF#8 ∧ b1 &&& 0xFE#8 = 0xFA#8)) ∧
    ((b0 = 0xFF#8 ∧ b1 &&& 0xFE#8 = 0xFA#8) ↔ (b0 = 0xFF#8 ∧ (b1 = 0xFA#8 ∨ b1 = 0xFB#8))) ∧
    ((b0 = 0xFF#8 ∧ b1 &&& 0xFE#8 = 0xFA#8) ↔ be32 b0 b1 b2 b3 &&& 0xFFFE0000#32 = 0xFFFA0000#32)

/-- R86, R99 (both marked as derived in the spec): the decoder works by fields, the table by mask and match. -/
def Obligations.ValidRowsMatchTheirMask : Prop :=
  ∀ row ∈ sizeTable, ∀ (pad : Bool) (b0 b1 b2 b3 : Byte),
    decode .mpahdr [b0, b1, b2, b3] = .ok (row.instr pad) ↔
      (be32 b0 b1 b2 b3 &&& 0xFFFEFC00#32 =
          BitVec.ofNat 32 (0xFFFA0000 + row.bitrateIndex * 2 ^ 12 + row.samplerateIndex * 2 ^ 10) ∧
        (be32 b0 b1 b2 b3).getLsbD 9 = pad)

/-- R86, R87: there is no encoding whose behaviour is undefined. -/
def Obligations.EveryHeaderWordIsClassified : Prop :=
  ∀ b0 b1 b2 b3 : Byte, ∃ i, decode .mpahdr [b0, b1, b2, b3] = .ok i ∧
    if be32 b0 b1 b2 b3 &&& 0xFFFE0000#32 = 0xFFFA0000#32 ∧
        (be32 b0 b1 b2 b3).extractLsb' 12 4 ≠ 0#4 ∧ (be32 b0 b1 b2 b3).extractLsb' 12 4 ≠ 15#4 ∧
        (be32 b0 b1 b2 b3).extractLsb' 10 2 ≠ 3#2
      then ∃ row ∈ sizeTable, ∃ pad, i = row.instr pad
      else i ∈ invalidRows

/-- R88: bits 16, 8 and 7:0 are ignored, no CRC and no channel mode is looked at. -/
def Obligations.IgnoredBitsDoNotMatter : Prop :=
  (∀ b0 b1 b2 b3 c1 c2 c3 : Byte, b1 &&& 0xFE#8 = c1 &&& 0xFE#8 → b2 &&& 0xFE#8 = c2 &&& 0xFE#8 →
    decode .mpahdr [b0, b1, b2, b3] = decode .mpahdr [b0, c1, c2, c3] ∧
    headerSize b0 b1 b2 = headerSize b0 c1 c2) ∧
  (∀ (B B' : Memory) (len p : Nat), (∀ a, p + 36 ≤ a → a < p + 44 → B.read a = B'.read a) →
    vbrdet B len p = vbrdet B' len p)

/-- R142, R143, R145, R146, R150, the fields by quotient and remainder. The bound on readable bytes is R141 (decision D15). The ROM contents are not used. -/
def Obligations.HdrdecAnswersExactly : Prop :=
  ∀ (B : Memory) (len p n : Nat), hdrdec B len p = some n ↔
    p + 4 ≤ len ∧ B.read p = 0xFF#8 ∧ B.read (p + 1) &&& 0xE0#8 = 0xE0#8 ∧
    (B.read (p + 1)).toNat / 8 % 4 = 3 ∧ (B.read (p + 1)).toNat / 2 % 4 = 1 ∧
    ∃ kbps hz, Config.bitrateRom[(B.read (p + 2)).toNat / 16]? = some (some kbps) ∧
      Config.samplerateRom[(B.read (p + 2)).toNat / 4 % 4]? = some (some hz) ∧
      n = 144 * kbps * 1000 / hz + (B.read (p + 2)).toNat / 2 % 2

/-- R10, R152. Rests on the ROM contents (logs 13, 14). -/
def Obligations.HdrdecSizeIsBounded : Prop :=
  ∀ (B : Memory) (len p n : Nat), hdrdec B len p = some n → 96 ≤ n ∧ n ≤ 1441

/-- R154: no dependence on the position, on other bytes or on earlier headers (SEEN and COUNT are no argument). -/
def Obligations.HdrdecDependsOnFourBytes : Prop :=
  ∀ (B B' : Memory) (len len' p p' : Nat), (p + 4 ≤ len ↔ p' + 4 ≤ len') →
    (∀ k, k < 4 → B.read (p + k) = B'.read (p' + k)) → hdrdec B len p = hdrdec B' len' p'

/-- R122, R123; the short buffer is R121 and the missing digits are R124, both decision D2 of the spec; the codes are R95, decision D10 (log 15, PRESUMED). -/
def Obligations.TagSkipperResult : Prop :=
  ∀ (B : Memory) (len : Nat),
    (¬ (3 ≤ len ∧ B.read 0 = 0x49#8 ∧ B.read 1 = 0x44#8 ∧ B.read 2 = 0x33#8) → skipLeadingTag B len = 0) ∧
    (3 ≤ len ∧ B.read 0 = 0x49#8 ∧ B.read 1 = 0x44#8 ∧ B.read 2 = 0x33#8 →
      skipLeadingTag B len =
        10 + (if 6 < len then (B.read 6).toNat % 128 else 0) * 2 ^ 21
          + (if 7 < len then (B.read 7).toNat % 128 else 0) * 2 ^ 14
          + (if 8 < len then (B.read 8).toNat % 128 else 0) * 2 ^ 7
          + (if 9 < len then (B.read 9).toNat % 128 else 0) ∧
      10 ≤ skipLeadingTag B len ∧ skipLeadingTag B len ≤ 268435465)

/-- R91. -/
def Obligations.TagSizeIsTheOrForm : Prop :=
  ∀ b6 b7 b8 b9 : Byte,
    tagSize (digitOf (some b6)) (digitOf (some b7)) (digitOf (some b8)) (digitOf (some b9)) =
      ((b6 &&& 0x7F#8).toNat <<< 21 ||| (b7 &&& 0x7F#8).toNat <<< 14 |||
        (b8 &&& 0x7F#8).toNat <<< 7 ||| (b9 &&& 0x7F#8).toNat) ∧
    tagSize (digitOf (some b6)) (digitOf (some b7)) (digitOf (some b8)) (digitOf (some b9)) ≤ 268435455 ∧
    tagOffset (digitOf (some b6)) (digitOf (some b7)) (digitOf (some b8)) (digitOf (some b9)) =
      10 + tagSize (digitOf (some b6)) (digitOf (some b7)) (digitOf (some b8)) (digitOf (some b9)) ∧
    digitOf (some (b6 ||| 0x80#8)) = digitOf (some (b6 &&& 0x7F#8))

/-- R170 to R173; that an incomplete window does not match is R174, the spec's decision D2; the codes are R95, its decision D10 (log 15, PRESUMED). -/
def Obligations.DetectorAnswersExactly : Prop :=
  ∀ (B : Memory) (len p : Nat), vbrdet B len p = true ↔
    (p + 40 ≤ len ∧
      ((B.read (p + 36) = 0x58#8 ∧ B.read (p + 37) = 0x69#8 ∧ B.read (p + 38) = 0x6E#8 ∧ B.read (p + 39) = 0x67#8) ∨
       (B.read (p + 36) = 0x49#8 ∧ B.read (p + 37) = 0x6E#8 ∧ B.read (p + 38) = 0x66#8 ∧ B.read (p + 39) = 0x6F#8))) ∨
    (p + 44 ≤ len ∧
      B.read (p + 40) = 0x56#8 ∧ B.read (p + 41) = 0x42#8 ∧ B.read (p + 42) = 0x52#8 ∧ B.read (p + 43) = 0x49#8)

/-- R196 with the 42 sizes of R151 (derived in the spec; bitrates and rate order: logs 13, 14). That a header row as an instruction is the WALK step at such a header is the model's reading of R99 (log 19, DEDUCED). -/
def Obligations.ValidHeaderIsAccepted : Prop :=
  ∀ row ∈ sizeTable, ∀ (pad : Bool) (s : State), s.phase = .scan → s.cursor + 4 < s.len →
    (s.seen = true ∨ vbrdet s.mem s.len s.cursor = false) →
    exec (row.instr pad) s =
      .next { s with seen := true, count := s.count + 1, cursor := s.cursor + (row.size + pad.toNat) }

/-- R195, R177 with the sizes of R151 (logs 13, 14). That a header row as an instruction is the WALK step at such a header is the model's reading of R99 (log 19, DEDUCED). -/
def Obligations.ValidHeaderIsSkipped : Prop :=
  ∀ row ∈ sizeTable, ∀ (pad : Bool) (s : State), s.phase = .scan → s.cursor + 4 < s.len →
    s.seen = false → vbrdet s.mem s.len s.cursor = true →
    exec (row.instr pad) s = .next { s with seen := true, cursor := s.cursor + (row.size + pad.toNat) }

/-- R87, R194: all causes of invalid are treated identically. The rows are the model's instructions by log 19. -/
def Obligations.InvalidHeaderResyncs : Prop :=
  ∀ i ∈ invalidRows, ∀ s : State, s.phase = .scan → s.cursor + 4 < s.len →
    exec i s = .next { s with cursor := s.cursor + 1 }

/-- R192, R193; the loop condition comes first (R236). That a header or signature row exits there is log 19. -/
def Obligations.NoHeadroomExits : Prop :=
  ∀ (i : Instr) (s : State), enabledIn i = .scan → s.phase = .scan → s.len ≤ s.cursor + 4 →
    exec i s = .next { s with phase := .done }

/-- R120 (decision D6), R122, R123. That an ID3HDR row as an instruction is the TAGSKIP step at such a tag is the model's reading of R99 (log 19, DEDUCED). -/
def Obligations.TagRowsSetTheCursor : Prop :=
  ∀ (a b c d : Nat) (s : State), s.phase = .tag →
    exec (.id3hdr a b c d) s =
      .next { s with cursor := 10 + (a * 2 ^ 21 + b * 2 ^ 14 + c * 2 ^ 7 + d), phase := .scan } ∧
    exec .id3hdrAbsent s = .next { s with cursor := 0, phase := .scan }

/-- R120 (decision D6). -/
def Obligations.TagskipSetsTheCursor : Prop :=
  ∀ s : State, s.phase = .tag →
    exec .tagskip s = .next { s with cursor := skipLeadingTag s.mem s.len, phase := .scan }

/-- R171, R172, R177, R195, R175. The meaning of a signature row as an instruction is log 8. -/
def Obligations.SignatureSkipsTheFirstFrame : Prop :=
  ∀ i ∈ signatureRows, ∀ s : State, s.phase = .scan → s.cursor + 4 < s.len →
    (∀ n, hdrdec s.mem s.len s.cursor = some n →
      (s.seen = false → exec i s = .next { s with seen := true, cursor := s.cursor + n }) ∧
      (s.seen = true → exec i s = .next { s with seen := true, count := s.count + 1, cursor := s.cursor + n })) ∧
    (hdrdec s.mem s.len s.cursor = none → exec i s = .next { s with cursor := s.cursor + 1 })

/-- R170, R173, R174. The window operand and the meaning of the row as an instruction are log 8. -/
def Obligations.NoSignatureLeavesTheOtherWindow : Prop :=
  ∀ (w : SigWindow) (s : State), s.phase = .scan → s.cursor + 4 < s.len →
    (∀ n, hdrdec s.mem s.len s.cursor = some n →
      (s.seen = false ∧ (match w with
          | .at36 => vbriMatch s.mem s.len s.cursor
          | .at40 => xingMatch s.mem s.len s.cursor) = true →
        exec (.sig4None w) s = .next { s with seen := true, cursor := s.cursor + n }) ∧
      (¬ (s.seen = false ∧ (match w with
          | .at36 => vbriMatch s.mem s.len s.cursor
          | .at40 => xingMatch s.mem s.len s.cursor) = true) →
        exec (.sig4None w) s = .next { s with seen := true, count := s.count + 1, cursor := s.cursor + n })) ∧
    (hdrdec s.mem s.len s.cursor = none → exec (.sig4None w) s = .next { s with cursor := s.cursor + 1 })

/-- R193. "No byte is read": the result is the same for every memory. That a step in DONE changes nothing is R264 and the model's reading of it (log 7, DEDUCED). -/
def Obligations.WalkExits : Prop :=
  ∀ (s : State) (m : Memory), s.phase = .scan → s.len ≤ s.cursor + 4 →
    exec .walk { s with mem := m } = .next { s with mem := m, phase := .done } ∧
    blockStep { s with mem := m, phase := .done } = .next { s with mem := m, phase := .done }

/-- R194. -/
def Obligations.WalkResyncs : Prop :=
  ∀ s : State, s.phase = .scan → s.cursor + 4 < s.len → hdrdec s.mem s.len s.cursor = none →
    exec .walk s = .next { s with cursor := s.cursor + 1 }

/-- R195. -/
def Obligations.WalkSkipsTheSummaryFrame : Prop :=
  ∀ (s : State) (n : Nat), s.phase = .scan → s.cursor + 4 < s.len → hdrdec s.mem s.len s.cursor = some n →
    s.seen = false → vbrdet s.mem s.len s.cursor = true →
    exec .walk s = .next { s with seen := true, cursor := s.cursor + n }

/-- R196. -/
def Obligations.WalkAcceptsTheFrame : Prop :=
  ∀ (s : State) (n : Nat), s.phase = .scan → s.cursor + 4 < s.len → hdrdec s.mem s.len s.cursor = some n →
    (s.seen = true ∨ vbrdet s.mem s.len s.cursor = false) →
    exec .walk s = .next { s with seen := true, count := s.count + 1, cursor := s.cursor + n }

/-- R175, R26: the detector is consulted at most once per scan. -/
def Obligations.DetectorIsNotConsultedAgain : Prop :=
  ∀ (s : State) (m : Memory), s.phase = .scan → s.seen = true →
    (∀ k, k < 4 → s.mem.read (s.cursor + k) = m.read (s.cursor + k)) →
    ∃ t, exec .walk s = .next t ∧ exec .walk { s with mem := m } = .next { t with mem := m }

/-- R27, R264; that no enabled step is a step that changes nothing is log 7. -/
def Obligations.IdleAndDoneStandStill : Prop :=
  ∀ s : State, (s.phase = .idle → exec .phaseIdle s = .next s) ∧ (s.phase = .done → exec .phaseDone s = .next s)

/-- R27, R120, R191 ("Enabled exactly when"); refusing elsewhere is the model's choice, log 6. -/
def Obligations.OperationsRunOnlyInTheirPhase : Prop :=
  ∀ (i : Instr) (s : State),
    (s.phase = enabledIn i → ∃ t, exec i s = .next t) ∧
    (s.phase ≠ enabledIn i → exec i s = .refused .notEnabled)

/-- R57: the only things a step writes are the registers of R20; LEN is written by START alone (R25). -/
def Obligations.OperationsWriteNoMemory : Prop :=
  ∀ (i : Instr) (s t : State), exec i s = .next t →
    (∀ a, t.mem.read a = s.mem.read a) ∧ t.mem = s.mem ∧ t.len = s.len ∧ t.lenIn = s.lenIn ∧
    t.inbox = s.inbox ∧ t.readData = s.readData

/-- R96, R27 (decision D6). letBlock is log 3. -/
def Obligations.StepRunsThePhaseOperation : Prop :=
  ∀ (s : State) (i : Instr), decode .phase [s.phase.code.setWidth 8] = .ok i →
    (s.inbox = [] → step s = exec i s) ∧
    (∀ rest, s.inbox = .letBlock :: rest → step s = exec i { s with inbox := rest })

/-- R191, R99: the MPAHDR rows are the cases of HDRDEC. -/
def Obligations.StepRunsTheDecodedHeader : Prop :=
  ∀ (s : State) (i : Instr), s.inbox = [] → s.phase = .scan → decode .mpahdr s.headerBytes = .ok i →
    step s = exec i s

/-- R120, R90, R99. -/
def Obligations.StepRunsTheDecodedTag : Prop :=
  ∀ (s : State) (i : Instr), s.inbox = [] → s.phase = .tag → decode .id3hdr s.tagBytes = .ok i →
    step s = exec i s

/-- R170, R173, R99: the SIG4 rows are the cases of VBRDET (log 8). -/
def Obligations.StepRunsTheDecodedSignature : Prop :=
  ∀ (s : State) (w : SigWindow) (i : Instr), s.inbox = [] → s.phase = .scan →
    decode (.sig4 w) (s.windowBytes w) = .ok i → step s = exec i s

/-- R230, R245, R31 (decision D1). That a host store is refused, and exactly when it changes a byte below LEN during a run, is the model's reading of R55 (decision D13; log 12, DEDUCED). -/
def Obligations.BlockNeverStops : Prop :=
  (∀ s : State, s.inbox = [] → ∃ t, step s = .next t) ∧
  (∀ (s : State) (r : Refusal), step s = .refused r →
    (r = .lenOutsidePremise ∧ s.phase ≠ .tag ∧ s.phase ≠ .scan ∧ 2 ^ 32 < s.lenIn + 1441 ∧
      ∃ v rest, s.inbox = .write .start v :: rest ∧ v % 2 = 1) ∨
    (r = .byteChangedDuringRun ∧ (s.phase = .tag ∨ s.phase = .scan) ∧
      ∃ a b rest, s.inbox = .place a b :: rest ∧ a < s.len ∧ b ≠ s.mem.read a))

/-- R40 (decision D7); the empty memory is log 1. -/
def Obligations.InvariantAtReset : Prop :=
  Inv State.reset

/-- R22, R24, R199, R271. The bounds 96 and 1441 rest on the ROM contents (logs 13, 14). -/
def Obligations.StepKeepsTheInvariant : Prop :=
  ∀ s t : State, Inv s → step s = .next t → Inv t

/-- R31, R271 (marked as derived, decision D1), with W = 32. -/
def Obligations.RegistersFitTheirWidth : Prop :=
  ∀ s : State, Inv s →
    s.len < 2 ^ 32 ∧ s.cursor + 4 < 2 ^ 32 ∧ s.count < 2 ^ 32 ∧
    (BitVec.ofNat 32 s.cursor + 4#32 < BitVec.ofNat 32 s.len ↔ s.cursor + 4 < s.len)

/-- R24 (marked as derived; 96 rests on the ROM contents, C10, log 13). -/
def Obligations.CountIsBounded : Prop :=
  ∀ s : State, Inv s → s.count ≤ (s.len + 95) / 96 ∧ s.count ≤ s.len

/-- R22, R200; an accepted START is R34 (decision D12), the hardware reset R40 (decision D7). The bounds rest on the ROM contents (logs 13, 14). -/
def Obligations.CursorIsWrittenInFourWays : Prop :=
  ∀ s t : State, step s = .next t →
    t.cursor = s.cursor ∨
    (t.cursor = 0 ∧ (s.phase = .idle ∨ s.phase = .done) ∧ t.phase = .tag ∧
      ∃ v rest, s.inbox = .write .start v :: rest ∧ v % 2 = 1) ∨
    (t.cursor = 0 ∧ t.phase = .idle ∧ ∃ rest, s.inbox = .reset :: rest) ∨
    (s.phase = .tag ∧ t.cursor = skipLeadingTag s.mem s.len) ∨
    (s.phase = .scan ∧ s.cursor + 4 < s.len ∧
      ((hdrdec s.mem s.len s.cursor = none ∧ t.cursor = s.cursor + 1) ∨
       ∃ n, hdrdec s.mem s.len s.cursor = some n ∧ 96 ≤ n ∧ n ≤ 1441 ∧ t.cursor = s.cursor + n))

/-- R199 (marked as derived), R24, R26. -/
def Obligations.RunProgress : Prop :=
  ∀ s t : State, s.phase = .scan → blockStep s = .next t →
    (t = { s with phase := .done } ∨ (t.phase = .scan ∧ s.cursor < t.cursor)) ∧
    (t.count = s.count ∨
      (t.count = s.count + 1 ∧ t.seen = true ∧ (hdrdec s.mem s.len s.cursor).isSome = true)) ∧
    (s.seen = true → t.seen = true) ∧
    (t.seen ≠ s.seen → (hdrdec s.mem s.len s.cursor).isSome = true) ∧
    ((s.seen = false → s.count = 0) → t.seen = false → t.count = 0)

/-- R27, R34, R40, R235: a run cannot be paused, aborted or redirected but by the reset. -/
def Obligations.PhaseMovesOnlyForward : Prop :=
  ∀ s t : State, step s = .next t →
    t.phase = s.phase ∨
    ((s.phase = .idle ∨ s.phase = .done) ∧ t.phase = .tag ∧
      ∃ v rest, s.inbox = .write .start v :: rest ∧ v % 2 = 1) ∨
    (s.phase = .tag ∧ t.phase = .scan) ∨
    (s.phase = .scan ∧ t.phase = .done ∧ s.len ≤ s.cursor + 4) ∨
    (t.phase = .idle ∧ ∃ rest, s.inbox = .reset :: rest)

/-- R211, R34 (START ignored), R35 (LEN_IN), R55 (decisions D12, D13, D5). Canonical memory is part of the invariant. -/
def Obligations.RunIsNotDisturbed : Prop :=
  ∀ s t : State, (s.phase = .tag ∨ s.phase = .scan) → s.mem.wf = true →
    (∀ rest, s.inbox ≠ .reset :: rest) → step s = .next t →
    t.len = s.len ∧ SameBytes t.mem s.mem s.len ∧
    (∀ m rest, s.inbox = m :: rest → m ≠ .letBlock →
      t.phase = s.phase ∧ t.cursor = s.cursor ∧ t.count = s.count ∧ t.seen = s.seen)

/-- R38, R54, R58 (decision D2): the block presents only offsets below LEN. -/
def Obligations.OnlyBytesBelowLenMatter : Prop :=
  ∀ (s t : State) (m : Memory), SameBytes s.mem m s.len → blockStep s = .next t →
    blockStep { s with mem := m } = .next { t with mem := m }

/-- R54: "No operation reads any other byte"; the value of the fourth header byte is not examined (R148). -/
def Obligations.StepDependsOnTheListedBytes : Prop :=
  ∀ (s t : State) (m : Memory),
    ((s.phase = .tag ∧ ∀ a, a ∈ [0, 1, 2, 6, 7, 8, 9] → s.mem.read a = m.read a) ∨
     (s.phase = .scan ∧ ∀ k, k ∈ [0, 1, 2, 36, 37, 38, 39, 40, 41, 42, 43] →
        s.mem.read (s.cursor + k) = m.read (s.cursor + k))) →
    blockStep s = .next t → blockStep { s with mem := m } = .next { t with mem := m }

/-- R190, R197, R198. The steps compute what the loop of R197 computes, and within the bound. -/
def Obligations.RunCountsTheFrames : Prop :=
  ∀ s : State, Started s → s.inbox = [] →
    ∃ (k : Nat) (t : State), k ≤ (s.len - 4) + 2 ∧ Sys2Proof.core.run k s = .next t ∧ t.phase = .done ∧
      t.count = countFrames s.mem s.len ∧ t.mem = s.mem ∧ t.len = s.len ∧ t.lenIn = s.lenIn

/-- R208, R262, R36, R37 (decisions D5, D22). The pending host moves are the model's (log 3), the placed memory is log 1. -/
def Obligations.HostCallReturnsTheCount : Prop :=
  ∀ bs : List Byte, lenPremise bs.length = true →
    ∃ (k : Nat) (t : State), k ≤ (bs.length - 4) + 4 ∧
      Sys2Proof.core.run k { State.reset with
        mem := loadStream bs, inbox := [.write .lenIn bs.length, .write .start 1] } = .next t ∧
      hostRead .status t = 3 ∧ hostRead .count t = countBytes bs

/-- R3: each invocation is a pure function of the input buffer. -/
def Obligations.CountDependsOnTheBytesAlone : Prop :=
  ∀ (s s' t t' : State) (k k' : Nat), Started s → Started s' → s.inbox = [] → s'.inbox = [] →
    s.len = s'.len → SameBytes s.mem s'.mem s.len →
    Sys2Proof.core.run k s = .next t → t.phase = .done →
    Sys2Proof.core.run k' s' = .next t' → t'.phase = .done → t.count = t'.count

/-- R201 (marked as derived from R192). -/
def Obligations.ShortBuffersCountZero : Prop :=
  ∀ (B : Memory) (len : Nat), len ≤ 4 → countFrames B len = 0

/-- R204, C7: in particular all ASCII text. -/
def Obligations.NoSyncByteCountsZero : Prop :=
  ∀ (B : Memory) (len : Nat), (∀ a, a < len → B.read a ≠ 0xFF#8) → countFrames B len = 0

/-- R202 (marked as derived from R192 and R153). -/
def Obligations.TrailingBytesDoNotCount : Prop :=
  ∀ (s t : State) (n k : Nat), Started s → s.inbox = [] → Sys2Proof.core.run n s = .next t → t.phase = .done →
    t.cursor = s.len → k ≤ 4 → countFrames s.mem (s.len + k) = t.count

/-- R127, V-S1, in the notation of R101 (decision D19). 128 kbps stands at index 9 by log 13. -/
def Obligations.TagIsSkipped : Prop :=
  ∀ S : Nat, S < 2 ^ 28 →
    countBytes (tagBytes S ++ frameBytes 128 44100 false ++ frameBytes 128 44100 false) = 2 ∧
    countBytes (frameBytes 128 44100 false ++ frameBytes 128 44100 false) = 2

/-- R177, R179, R102, V-S5, V-W13, in the notation of R101 (decision D19). The classes rest on the ROM contents (logs 13, 14). -/
def Obligations.SummaryFrameIsNotCounted : Prop :=
  ∀ (kbps hz : Nat) (pad : Bool) (frames : List (Nat × Nat × Bool)),
    RateOk kbps hz → (∀ f ∈ frames, RateOk f.1 f.2.1) →
    ∀ item ∈ [xingFrameBytes kbps hz pad asciiXing, xingFrameBytes kbps hz pad asciiInfo, vbriFrameBytes kbps hz pad],
      countBytes (item ++ (frames.map fun f => frameBytes f.1 f.2.1 f.2.2).flatten) = frames.length

/-- R34 (decision D12), R31 (decision D1; 2^32 - 1441 = 4294965855), R39. -/
def Obligations.AcceptedStartBeginsARun : Prop :=
  ∀ (s : State) (v : Nat) (rest : List HostMove), s.inbox = .write .start v :: rest →
    ((s.phase = .idle ∨ s.phase = .done) → v % 2 = 1 → s.lenIn ≤ 4294965855 →
      step s = .next { s with
        inbox := rest, len := s.lenIn, cursor := 0, count := 0, seen := false, phase := .tag }) ∧
    ((s.phase = .idle ∨ s.phase = .done) → v % 2 = 1 → 4294965855 < s.lenIn →
      step s = .refused .lenOutsidePremise) ∧
    (v % 2 = 0 ∨ s.phase = .tag ∨ s.phase = .scan → step s = .next { s with inbox := rest })

/-- R33, R35, R36, R37 (decisions D5, D22); writes of the read-only registers are log 11 (DEDUCED), the place of the returned value is log 4 (DESIGN CHOICE). That LEN_IN takes and returns a value that W bits cannot hold is the model's choice, log 2 (DESIGN CHOICE, unsafe for that read). -/
def Obligations.HostRegisterAccesses : Prop :=
  ∀ (s : State) (v : Nat) (rest : List HostMove),
    (s.inbox = .write .lenIn v :: rest → step s = .next { s with inbox := rest, lenIn := v }) ∧
    (s.inbox = .write .count v :: rest ∨ s.inbox = .write .status v :: rest →
      step s = .next { s with inbox := rest }) ∧
    (s.inbox = .read .start :: rest → step s = .next { s with inbox := rest, readData := 0 }) ∧
    (s.inbox = .read .lenIn :: rest → step s = .next { s with inbox := rest, readData := s.lenIn }) ∧
    (s.inbox = .read .count :: rest → step s = .next { s with inbox := rest, readData := s.count }) ∧
    (s.inbox = .read .status :: rest → step s = .next { s with
      inbox := rest,
      readData := match s.phase with
        | .idle => 0
        | .tag => 1
        | .scan => 2
        | .done => 3 })

/-- R55 (decision D13), R262; log 12. -/
def Obligations.HostStoresBytes : Prop :=
  ∀ (s : State) (a : Nat) (b : Byte) (rest : List HostMove), s.inbox = .place a b :: rest → s.mem.wf = true →
    ((s.phase = .tag ∨ s.phase = .scan) ∧ a < s.len ∧ b ≠ s.mem.read a →
      step s = .refused .byteChangedDuringRun) ∧
    (¬ ((s.phase = .tag ∨ s.phase = .scan) ∧ a < s.len ∧ b ≠ s.mem.read a) →
      ∃ m : Memory, step s = .next { s with inbox := rest, mem := m } ∧ m.wf = true ∧
        ∀ c, m.read c = if c = a then b else s.mem.read c)

/-- R40, R260 (decision D7); what is the host's stays: log 5. -/
def Obligations.HardwareReset : Prop :=
  (∀ (s : State) (rest : List HostMove), s.inbox = .reset :: rest →
    step s = .next { s with
      inbox := rest, phase := .idle, len := 0, cursor := 0, count := 0, seen := false, lenIn := 0 }) ∧
  State.reset.phase = .idle ∧ State.reset.len = 0 ∧ State.reset.cursor = 0 ∧ State.reset.count = 0 ∧
  State.reset.seen = false ∧ State.reset.lenIn = 0

/-- The model's representation of the Byte Sequence of R51, R62: log 1. -/
def Obligations.CanonicalMemoriesAreEqual : Prop :=
  ∀ m m' : Memory, m.wf = true → m'.wf = true → (∀ a, m.read a = m'.read a) → m = m'
end

