-- ==== Sys2Proof/Laws/State.lean ====
section
/-! SUPPORT. One lemma per field of State per register write, so that no proof unfolds a record update. -/

namespace Sys2Proof.Machine

variable (s : State)

@[simp] theorem State.launch_phase : (s.launch).phase = .tag := rfl
@[simp] theorem State.launch_len : (s.launch).len = s.lenIn := rfl
@[simp] theorem State.launch_cursor : (s.launch).cursor = 0 := rfl
@[simp] theorem State.launch_count : (s.launch).count = 0 := rfl
@[simp] theorem State.launch_seen : (s.launch).seen = false := rfl
@[simp] theorem State.launch_lenIn : (s.launch).lenIn = s.lenIn := rfl
@[simp] theorem State.launch_mem : (s.launch).mem = s.mem := rfl
@[simp] theorem State.launch_inbox : (s.launch).inbox = s.inbox := rfl
@[simp] theorem State.launch_readData : (s.launch).readData = s.readData := rfl

@[simp] theorem State.enterScan_phase (r : Nat) : (s.enterScan r).phase = .scan := rfl
@[simp] theorem State.enterScan_len (r : Nat) : (s.enterScan r).len = s.len := rfl
@[simp] theorem State.enterScan_cursor (r : Nat) : (s.enterScan r).cursor = r := rfl
@[simp] theorem State.enterScan_count (r : Nat) : (s.enterScan r).count = s.count := rfl
@[simp] theorem State.enterScan_seen (r : Nat) : (s.enterScan r).seen = s.seen := rfl
@[simp] theorem State.enterScan_lenIn (r : Nat) : (s.enterScan r).lenIn = s.lenIn := rfl
@[simp] theorem State.enterScan_mem (r : Nat) : (s.enterScan r).mem = s.mem := rfl
@[simp] theorem State.enterScan_inbox (r : Nat) : (s.enterScan r).inbox = s.inbox := rfl
@[simp] theorem State.enterScan_readData (r : Nat) : (s.enterScan r).readData = s.readData := rfl

@[simp] theorem State.exitRun_phase : (s.exitRun).phase = .done := rfl
@[simp] theorem State.exitRun_len : (s.exitRun).len = s.len := rfl
@[simp] theorem State.exitRun_cursor : (s.exitRun).cursor = s.cursor := rfl
@[simp] theorem State.exitRun_count : (s.exitRun).count = s.count := rfl
@[simp] theorem State.exitRun_seen : (s.exitRun).seen = s.seen := rfl
@[simp] theorem State.exitRun_lenIn : (s.exitRun).lenIn = s.lenIn := rfl
@[simp] theorem State.exitRun_mem : (s.exitRun).mem = s.mem := rfl
@[simp] theorem State.exitRun_inbox : (s.exitRun).inbox = s.inbox := rfl
@[simp] theorem State.exitRun_readData : (s.exitRun).readData = s.readData := rfl

@[simp] theorem State.resync_phase : (s.resync).phase = s.phase := rfl
@[simp] theorem State.resync_len : (s.resync).len = s.len := rfl
@[simp] theorem State.resync_cursor : (s.resync).cursor = s.cursor + 1 := rfl
@[simp] theorem State.resync_count : (s.resync).count = s.count := rfl
@[simp] theorem State.resync_seen : (s.resync).seen = s.seen := rfl
@[simp] theorem State.resync_lenIn : (s.resync).lenIn = s.lenIn := rfl
@[simp] theorem State.resync_mem : (s.resync).mem = s.mem := rfl
@[simp] theorem State.resync_inbox : (s.resync).inbox = s.inbox := rfl
@[simp] theorem State.resync_readData : (s.resync).readData = s.readData := rfl

@[simp] theorem State.skipMeta_phase (n : Nat) : (s.skipMeta n).phase = s.phase := rfl
@[simp] theorem State.skipMeta_len (n : Nat) : (s.skipMeta n).len = s.len := rfl
@[simp] theorem State.skipMeta_cursor (n : Nat) : (s.skipMeta n).cursor = s.cursor + n := rfl
@[simp] theorem State.skipMeta_count (n : Nat) : (s.skipMeta n).count = s.count := rfl
@[simp] theorem State.skipMeta_seen (n : Nat) : (s.skipMeta n).seen = true := rfl
@[simp] theorem State.skipMeta_lenIn (n : Nat) : (s.skipMeta n).lenIn = s.lenIn := rfl
@[simp] theorem State.skipMeta_mem (n : Nat) : (s.skipMeta n).mem = s.mem := rfl
@[simp] theorem State.skipMeta_inbox (n : Nat) : (s.skipMeta n).inbox = s.inbox := rfl
@[simp] theorem State.skipMeta_readData (n : Nat) : (s.skipMeta n).readData = s.readData := rfl

@[simp] theorem State.accept_phase (n : Nat) : (s.accept n).phase = s.phase := rfl
@[simp] theorem State.accept_len (n : Nat) : (s.accept n).len = s.len := rfl
@[simp] theorem State.accept_cursor (n : Nat) : (s.accept n).cursor = s.cursor + n := rfl
@[simp] theorem State.accept_count (n : Nat) : (s.accept n).count = s.count + 1 := rfl
@[simp] theorem State.accept_seen (n : Nat) : (s.accept n).seen = true := rfl
@[simp] theorem State.accept_lenIn (n : Nat) : (s.accept n).lenIn = s.lenIn := rfl
@[simp] theorem State.accept_mem (n : Nat) : (s.accept n).mem = s.mem := rfl
@[simp] theorem State.accept_inbox (n : Nat) : (s.accept n).inbox = s.inbox := rfl
@[simp] theorem State.accept_readData (n : Nat) : (s.accept n).readData = s.readData := rfl

@[simp] theorem State.setLenIn_phase (v : Nat) : (s.setLenIn v).phase = s.phase := rfl
@[simp] theorem State.setLenIn_len (v : Nat) : (s.setLenIn v).len = s.len := rfl
@[simp] theorem State.setLenIn_cursor (v : Nat) : (s.setLenIn v).cursor = s.cursor := rfl
@[simp] theorem State.setLenIn_count (v : Nat) : (s.setLenIn v).count = s.count := rfl
@[simp] theorem State.setLenIn_seen (v : Nat) : (s.setLenIn v).seen = s.seen := rfl
@[simp] theorem State.setLenIn_lenIn (v : Nat) : (s.setLenIn v).lenIn = v := rfl
@[simp] theorem State.setLenIn_mem (v : Nat) : (s.setLenIn v).mem = s.mem := rfl
@[simp] theorem State.setLenIn_inbox (v : Nat) : (s.setLenIn v).inbox = s.inbox := rfl
@[simp] theorem State.setLenIn_readData (v : Nat) : (s.setLenIn v).readData = s.readData := rfl

@[simp] theorem State.store_phase (a : Nat) (b : Byte) : (s.store a b).phase = s.phase := rfl
@[simp] theorem State.store_len (a : Nat) (b : Byte) : (s.store a b).len = s.len := rfl
@[simp] theorem State.store_cursor (a : Nat) (b : Byte) : (s.store a b).cursor = s.cursor := rfl
@[simp] theorem State.store_count (a : Nat) (b : Byte) : (s.store a b).count = s.count := rfl
@[simp] theorem State.store_seen (a : Nat) (b : Byte) : (s.store a b).seen = s.seen := rfl
@[simp] theorem State.store_lenIn (a : Nat) (b : Byte) : (s.store a b).lenIn = s.lenIn := rfl
@[simp] theorem State.store_mem (a : Nat) (b : Byte) : (s.store a b).mem = s.mem.write a b := rfl
@[simp] theorem State.store_inbox (a : Nat) (b : Byte) : (s.store a b).inbox = s.inbox := rfl
@[simp] theorem State.store_readData (a : Nat) (b : Byte) : (s.store a b).readData = s.readData := rfl

@[simp] theorem State.answer_phase (v : Nat) : (s.answer v).phase = s.phase := rfl
@[simp] theorem State.answer_len (v : Nat) : (s.answer v).len = s.len := rfl
@[simp] theorem State.answer_cursor (v : Nat) : (s.answer v).cursor = s.cursor := rfl
@[simp] theorem State.answer_count (v : Nat) : (s.answer v).count = s.count := rfl
@[simp] theorem State.answer_seen (v : Nat) : (s.answer v).seen = s.seen := rfl
@[simp] theorem State.answer_lenIn (v : Nat) : (s.answer v).lenIn = s.lenIn := rfl
@[simp] theorem State.answer_mem (v : Nat) : (s.answer v).mem = s.mem := rfl
@[simp] theorem State.answer_inbox (v : Nat) : (s.answer v).inbox = s.inbox := rfl
@[simp] theorem State.answer_readData (v : Nat) : (s.answer v).readData = v := rfl

@[simp] theorem State.popMove_phase (rest : List HostMove) : (s.popMove rest).phase = s.phase := rfl
@[simp] theorem State.popMove_len (rest : List HostMove) : (s.popMove rest).len = s.len := rfl
@[simp] theorem State.popMove_cursor (rest : List HostMove) : (s.popMove rest).cursor = s.cursor := rfl
@[simp] theorem State.popMove_count (rest : List HostMove) : (s.popMove rest).count = s.count := rfl
@[simp] theorem State.popMove_seen (rest : List HostMove) : (s.popMove rest).seen = s.seen := rfl
@[simp] theorem State.popMove_lenIn (rest : List HostMove) : (s.popMove rest).lenIn = s.lenIn := rfl
@[simp] theorem State.popMove_mem (rest : List HostMove) : (s.popMove rest).mem = s.mem := rfl
@[simp] theorem State.popMove_inbox (rest : List HostMove) : (s.popMove rest).inbox = rest := rfl
@[simp] theorem State.popMove_readData (rest : List HostMove) : (s.popMove rest).readData = s.readData := rfl

@[simp] theorem State.hwReset_phase : (s.hwReset).phase = .idle := rfl
@[simp] theorem State.hwReset_len : (s.hwReset).len = 0 := rfl
@[simp] theorem State.hwReset_cursor : (s.hwReset).cursor = 0 := rfl
@[simp] theorem State.hwReset_count : (s.hwReset).count = 0 := rfl
@[simp] theorem State.hwReset_seen : (s.hwReset).seen = false := rfl
@[simp] theorem State.hwReset_lenIn : (s.hwReset).lenIn = 0 := rfl
@[simp] theorem State.hwReset_mem : (s.hwReset).mem = s.mem := rfl
@[simp] theorem State.hwReset_inbox : (s.hwReset).inbox = s.inbox := rfl
@[simp] theorem State.hwReset_readData : (s.hwReset).readData = s.readData := rfl

@[simp] theorem State.reset_phase : State.reset.phase = .idle := rfl
@[simp] theorem State.reset_len : State.reset.len = 0 := rfl
@[simp] theorem State.reset_cursor : State.reset.cursor = 0 := rfl
@[simp] theorem State.reset_count : State.reset.count = 0 := rfl
@[simp] theorem State.reset_seen : State.reset.seen = false := rfl
@[simp] theorem State.reset_lenIn : State.reset.lenIn = 0 := rfl
@[simp] theorem State.reset_mem : State.reset.mem = [] := rfl
@[simp] theorem State.reset_inbox : State.reset.inbox = [] := rfl
@[simp] theorem State.reset_readData : State.reset.readData = 0 := rfl

/-- A WALK outcome writes no register but PHASE, CURSOR, COUNT and SEEN. -/
@[simp] theorem State.applyOutcome_len (o : WalkOutcome) : (s.applyOutcome o).len = s.len := by cases o <;> rfl
@[simp] theorem State.applyOutcome_lenIn (o : WalkOutcome) : (s.applyOutcome o).lenIn = s.lenIn := by cases o <;> rfl
@[simp] theorem State.applyOutcome_mem (o : WalkOutcome) : (s.applyOutcome o).mem = s.mem := by cases o <;> rfl
@[simp] theorem State.applyOutcome_inbox (o : WalkOutcome) : (s.applyOutcome o).inbox = s.inbox := by cases o <;> rfl
@[simp] theorem State.applyOutcome_readData (o : WalkOutcome) : (s.applyOutcome o).readData = s.readData := by
  cases o <;> rfl

/-- The four outcomes as register writes. -/
@[simp] theorem State.applyOutcome_exit : s.applyOutcome .exit = s.exitRun := rfl
@[simp] theorem State.applyOutcome_resync : s.applyOutcome .resync = s.resync := rfl
@[simp] theorem State.applyOutcome_skipMeta (n : Nat) : s.applyOutcome (.skipMeta n) = s.skipMeta n := rfl
@[simp] theorem State.applyOutcome_accept (n : Nat) : s.applyOutcome (.accept n) = s.accept n := rfl

/-- Every phase is the phase of its code, and every code the code of its phase. -/
@[simp] theorem Phase.ofCode_code (p : Phase) : Phase.ofCode p.code = p := by cases p <;> rfl

theorem Phase.code_ofCode (c : BitVec 2) : (Phase.ofCode c).code = c := by revert c; decide

end Sys2Proof.Machine
end

