-- ==== Sys2Proof/Laws/Flags.lean ====
section
/-! SUPPORT. Once for each shared operation: everything it can answer. -/

namespace Sys2Proof.Machine

theorem State.inRange_iff (s : State) : s.inRange = true ↔ s.cursor + 4 < s.len :=
  decide_eq_true_iff (p := s.cursor + 4 < s.len)

/-- An operation answers a next state only in its own phase, and then the one it was given. -/
theorem whenEnabled_next {p : Phase} {s t u : State} :
    whenEnabled p s t = .next u ↔ s.phase = p ∧ u = t := by
  unfold whenEnabled
  split <;> simp_all [eq_comm]

theorem whenEnabled_of {p : Phase} {s : State} (h : s.phase = p) (t : State) : whenEnabled p s t = .next t :=
  if_pos h

theorem whenEnabled_of_ne {p : Phase} {s : State} (h : s.phase ≠ p) (t : State) :
    whenEnabled p s t = .refused .notEnabled :=
  if_neg h

/-- The outcomes of a WALK step and when each is taken (60_exceptions.md R236). -/
theorem State.outcome_cases (s : State) (h : Option Nat) (v : Bool) :
    (¬ s.cursor + 4 < s.len ∧ s.outcome h v = .exit) ∨
    (s.cursor + 4 < s.len ∧ h = none ∧ s.outcome h v = .resync) ∨
    (s.cursor + 4 < s.len ∧ s.seen = false ∧ v = true ∧ ∃ n, h = some n ∧ s.outcome h v = .skipMeta n) ∨
    (s.cursor + 4 < s.len ∧ (s.seen = true ∨ v = false) ∧ ∃ n, h = some n ∧ s.outcome h v = .accept n) := by
  unfold State.outcome
  by_cases hr : s.cursor + 4 < s.len
  · rw [if_pos ((State.inRange_iff s).2 hr)]
    cases h with
    | none => exact .inr (.inl ⟨hr, rfl, rfl⟩)
    | some n => cases hs : s.seen <;> cases v <;> simp_all
  · rw [if_neg (by rwa [State.inRange_iff])]
    exact .inl ⟨hr, rfl⟩

/-- Everything a WALK step can answer (43_frame_walker.md R191 to R196). -/
theorem walkOn_next {h : Option Nat} {v : Bool} {s t : State} (hw : walkOn h v s = .next t) :
    s.phase = .scan ∧
    ((¬ s.cursor + 4 < s.len ∧ t = s.exitRun) ∨
     (s.cursor + 4 < s.len ∧ h = none ∧ t = s.resync) ∨
     (s.cursor + 4 < s.len ∧ s.seen = false ∧ v = true ∧ ∃ n, h = some n ∧ t = s.skipMeta n) ∨
     (s.cursor + 4 < s.len ∧ (s.seen = true ∨ v = false) ∧ ∃ n, h = some n ∧ t = s.accept n)) := by
  obtain ⟨hp, rfl⟩ := whenEnabled_next.1 hw
  refine ⟨hp, ?_⟩
  rcases State.outcome_cases s h v with ⟨h1, h2⟩ | ⟨h1, h2, h3⟩ | ⟨h1, h2, h3, n, h4, h5⟩ | ⟨h1, h2, n, h4, h5⟩
  · exact .inl ⟨h1, by rw [h2]; rfl⟩
  · exact .inr (.inl ⟨h1, h2, by rw [h3]; rfl⟩)
  · exact .inr (.inr (.inl ⟨h1, h2, h3, n, h4, by rw [h5]; rfl⟩))
  · exact .inr (.inr (.inr ⟨h1, h2, n, h4, by rw [h5]; rfl⟩))

/-- The block's own step in each phase (10_state.md R27). -/
theorem blockStep_idle {s : State} (h : s.phase = .idle) : blockStep s = .next s := by
  simp [blockStep, State.phaseOp, h, Phase.code, phaseClass, exec, execPhaseIdle, stand, whenEnabled]

theorem blockStep_done {s : State} (h : s.phase = .done) : blockStep s = .next s := by
  simp [blockStep, State.phaseOp, h, Phase.code, phaseClass, exec, execPhaseDone, stand, whenEnabled]

theorem blockStep_tag {s : State} (h : s.phase = .tag) :
    blockStep s = .next (s.enterScan (skipLeadingTag s.mem s.len)) := by
  simp [blockStep, State.phaseOp, h, Phase.code, phaseClass, exec, execTagskip, tagStep, whenEnabled]

theorem blockStep_scan {s : State} (h : s.phase = .scan) :
    blockStep s = .next (s.applyOutcome (s.outcome s.candidate s.isMeta)) := by
  simp [blockStep, State.phaseOp, h, Phase.code, phaseClass, exec, execWalk, walkOn, whenEnabled]

/-- Everything the block's own step can answer. -/
theorem blockStep_cases (s : State) :
    ((s.phase = .idle ∨ s.phase = .done) ∧ blockStep s = .next s) ∨
    (s.phase = .tag ∧ blockStep s = .next (s.enterScan (skipLeadingTag s.mem s.len))) ∨
    (s.phase = .scan ∧ blockStep s = .next (s.applyOutcome (s.outcome s.candidate s.isMeta))) := by
  cases h : s.phase with
  | idle => exact .inl ⟨.inl rfl, blockStep_idle h⟩
  | tag => exact .inr (.inl ⟨rfl, blockStep_tag h⟩)
  | scan => exact .inr (.inr ⟨rfl, blockStep_scan h⟩)
  | done => exact .inl ⟨.inr rfl, blockStep_done h⟩

/-- Everything a START with GO = 1 can answer (10_state.md R31, R34). -/
theorem hostGo_cases (s : State) :
    (s.phase.busy = true ∧ hostGo s = .next s) ∨
    (s.phase.busy = false ∧ lenPremise s.lenIn = true ∧ hostGo s = .next s.launch) ∨
    (s.phase.busy = false ∧ lenPremise s.lenIn = false ∧ hostGo s = .refused .lenOutsidePremise) := by
  unfold hostGo
  cases s.phase.busy <;> cases lenPremise s.lenIn <;> simp

/-- Everything a register write can answer. -/
theorem hostWrite_cases (r : HostReg) (v : Nat) (s : State) :
    (r = .start ∧ v % 2 = 1 ∧ hostWrite r v s = hostGo s) ∨
    (r = .lenIn ∧ hostWrite r v s = .next (s.setLenIn v)) ∨
    (r ≠ .lenIn ∧ (r = .start → v % 2 ≠ 1) ∧ hostWrite r v s = .next s) := by
  cases r with
  | start =>
    by_cases h : v % 2 = 1
    · exact .inl ⟨rfl, h, if_pos h⟩
    · exact .inr (.inr ⟨by simp, fun _ => h, if_neg h⟩)
  | lenIn => exact .inr (.inl ⟨rfl, rfl⟩)
  | count => exact .inr (.inr ⟨by simp, by simp, rfl⟩)
  | status => exact .inr (.inr ⟨by simp, by simp, rfl⟩)

/-- Everything a host store can answer (20_memory.md R55). -/
theorem hostStore_cases (a : Nat) (b : Byte) (s : State) :
    (s.phase.busy = true ∧ a < s.len ∧ b ≠ s.mem.read a ∧ hostStore a b s = .refused .byteChangedDuringRun) ∨
    ((s.phase.busy = false ∨ s.len ≤ a ∨ b = s.mem.read a) ∧ hostStore a b s = .next (s.store a b)) := by
  unfold hostStore
  by_cases h1 : s.phase.busy = true <;> by_cases h2 : a < s.len <;> by_cases h3 : b = s.mem.read a <;>
    simp_all

/-- A step is the block's own when nothing of the host's is pending, else the host's oldest move. -/
theorem step_nil {s : State} (h : s.inbox = []) : step s = blockStep s := by
  simp [step, h]

theorem step_cons {s : State} {m : HostMove} {rest : List HostMove} (h : s.inbox = m :: rest) :
    step s = hostStep m (s.popMove rest) := by
  simp [step, h]

end Sys2Proof.Machine
end

