-- ==== Sys2Proof/Laws/Memory.lean ====
section
/-! SUPPORT. The laws of the Byte Sequence's memory: reading after a store, and the canonical form. -/

namespace Sys2Proof.Machine

@[simp] theorem Memory.read_nil (a : Nat) : Memory.read [] a = unlistedByte := rfl

theorem Memory.read_cons (k : Nat) (v : Byte) (m : Memory) (a : Nat) :
    Memory.read ((k, v) :: m) a = if a = k then v else Memory.read m a := rfl

theorem Memory.wfFrom_cons (lo k : Nat) (v : Byte) (m : Memory) :
    Memory.wfFrom lo ((k, v) :: m) = true ↔ lo ≤ k ∧ v ≠ unlistedByte ∧ Memory.wfFrom (k + 1) m = true := by
  simp [Memory.wfFrom, and_assoc]

/-- A canonical memory whose offsets start at `hi` also starts at any lower offset. -/
theorem Memory.wfFrom_mono {lo hi : Nat} (h : lo ≤ hi) {m : Memory} (hm : Memory.wfFrom hi m = true) :
    Memory.wfFrom lo m = true := by
  cases m with
  | nil => rfl
  | cons e m =>
    obtain ⟨k, v⟩ := e
    rw [Memory.wfFrom_cons] at hm ⊢
    exact ⟨by omega, hm.2⟩

/-- Below its first offset a canonical memory lists nothing. -/
theorem Memory.read_below {lo : Nat} {m : Memory} (hm : Memory.wfFrom lo m = true) {a : Nat} (ha : a < lo) :
    m.read a = unlistedByte := by
  induction m generalizing lo with
  | nil => rfl
  | cons e m ih =>
    obtain ⟨k, v⟩ := e
    obtain ⟨hk, -, hm⟩ := (Memory.wfFrom_cons ..).1 hm
    rw [Memory.read_cons, if_neg (by omega)]
    exact ih hm (by omega)

/-- A store keeps the canonical form. -/
theorem Memory.wfFrom_write {lo : Nat} {m : Memory} (hm : Memory.wfFrom lo m = true) {a : Nat} (ha : lo ≤ a) (b : Byte) :
    Memory.wfFrom lo (m.write a b) = true := by
  induction m generalizing lo with
  | nil =>
    unfold Memory.write
    split
    · rfl
    · rename_i hb
      rw [Memory.wfFrom_cons]
      exact ⟨ha, hb, rfl⟩
  | cons e m ih =>
    obtain ⟨k, v⟩ := e
    obtain ⟨hk, hv, hm⟩ := (Memory.wfFrom_cons ..).1 hm
    unfold Memory.write
    split_ifs with h1 h2 h3 h4
    · exact (Memory.wfFrom_cons ..).2 ⟨hk, hv, hm⟩
    · exact (Memory.wfFrom_cons ..).2 ⟨ha, h2, (Memory.wfFrom_cons ..).2 ⟨h1, hv, hm⟩⟩
    · exact Memory.wfFrom_mono (by omega) hm
    · exact (Memory.wfFrom_cons ..).2 ⟨ha, h4, h3 ▸ hm⟩
    · exact (Memory.wfFrom_cons ..).2 ⟨hk, hv, ih hm (by omega)⟩

theorem Memory.wf_write {m : Memory} (hm : m.wf = true) (a : Nat) (b : Byte) : (m.write a b).wf = true :=
  Memory.wfFrom_write hm (Nat.zero_le a) b

/-- The memory of the reset state is in canonical form. -/
theorem reset_mem_wf : State.reset.mem.wf = true := rfl

theorem Memory.wf_writeAll {m : Memory} (hm : m.wf = true) (a : Nat) (bs : List Byte) :
    (m.writeAll a bs).wf = true := by
  induction bs generalizing m a with
  | nil => exact hm
  | cons b bs ih => exact ih (Memory.wf_write hm a b) (a + 1)

/-- Reading after a store: the stored byte at its offset, and what was there before anywhere else. -/
theorem Memory.read_write_from {lo : Nat} {m : Memory} (hm : Memory.wfFrom lo m = true) (a c : Nat) (b : Byte) :
    (m.write a b).read c = if c = a then b else m.read c := by
  induction m generalizing lo with
  | nil =>
    unfold Memory.write
    split_ifs <;> simp_all [Memory.read_cons]
  | cons e m ih =>
    obtain ⟨k, v⟩ := e
    obtain ⟨hk, hv, hm⟩ := (Memory.wfFrom_cons ..).1 hm
    have hbelow : ∀ x, x ≤ k → Memory.read m x = unlistedByte := fun x hx => Memory.read_below hm (by omega)
    unfold Memory.write
    by_cases h1 : a < k
    · rw [if_pos h1]
      by_cases hb : b = unlistedByte
      · rw [if_pos hb]
        by_cases hc : c = a
        · rw [if_pos hc, hb, Memory.read_cons, if_neg (by omega), hbelow c (by omega)]
        · rw [if_neg hc]
      · rw [if_neg hb, Memory.read_cons]
    · rw [if_neg h1]
      by_cases h2 : a = k
      · rw [if_pos h2]
        subst h2
        by_cases hb : b = unlistedByte
        · rw [if_pos hb]
          by_cases hc : c = a
          · rw [if_pos hc, hb, hbelow c (by omega)]
          · rw [if_neg hc, Memory.read_cons, if_neg hc]
        · rw [if_neg hb, Memory.read_cons, Memory.read_cons]
          by_cases hc : c = a <;> simp [hc]
      · rw [if_neg h2, Memory.read_cons, Memory.read_cons, ih hm]
        by_cases hc : c = k
        · rw [if_pos hc, if_pos hc, if_neg (by omega)]
        · rw [if_neg hc, if_neg hc]

theorem Memory.read_write {m : Memory} (hm : m.wf = true) (a c : Nat) (b : Byte) :
    (m.write a b).read c = if c = a then b else m.read c :=
  Memory.read_write_from (lo := 0) hm a c b

/-- Reading after consecutive stores. -/
theorem Memory.read_writeAll {m : Memory} (hm : m.wf = true) (a c : Nat) (bs : List Byte) :
    (m.writeAll a bs).read c = if a ≤ c then bs.getD (c - a) (m.read c) else m.read c := by
  induction bs generalizing m a with
  | nil => simp [Memory.writeAll]
  | cons b bs ih =>
    rw [Memory.writeAll, ih (Memory.wf_write hm a b), Memory.read_write hm]
    by_cases h : a + 1 ≤ c
    · obtain ⟨d, rfl⟩ := Nat.exists_eq_add_of_le h
      have h1 : a + 1 + d - (a + 1) = d := by omega
      have h2 : a + 1 + d - a = d + 1 := by omega
      rw [if_pos h, if_neg (by omega), if_pos (by omega), h1, h2]
      simp
    · rw [if_neg h]
      by_cases hc : c = a
      · subst hc
        simp
      · rw [if_neg hc, if_neg (by omega)]

/-- The absent and the present byte (00_scope.md R14, 20_memory.md R58). -/
theorem byteAt_eq_some {B : Memory} {len a : Nat} {b : Byte} :
    byteAt B len a = some b ↔ a < len ∧ B.read a = b := by
  unfold byteAt
  split <;> simp_all

/-- `MemRead` answers the bytes exactly when all of them are below the length. -/
theorem memRead_eq_some {B : Memory} {len a n : Nat} {bs : List Byte} :
    memRead B len a n = some bs ↔ a + n ≤ len ∧ readBytes B a n = bs := by
  unfold memRead
  split <;> simp_all

@[simp] theorem readBytes_length (B : Memory) (a n : Nat) : (readBytes B a n).length = n := by
  induction n generalizing a with
  | zero => rfl
  | succ n ih => simp [readBytes, ih]

/-- Consecutive bytes depend on the bytes at their offsets alone. -/
theorem readBytes_congr {B B' : Memory} {a n : Nat} (h : ∀ k, a ≤ k → k < a + n → B.read k = B'.read k) :
    readBytes B a n = readBytes B' a n := by
  induction n generalizing a with
  | zero => rfl
  | succ n ih =>
    rw [readBytes, readBytes, h a (Nat.le_refl a) (by omega), ih (fun k h1 h2 => h k (by omega) (by omega))]

end Sys2Proof.Machine
end

