-- ==== Sys2Proof/Laws/Operands.lean ====
section
/-! SUPPORT. One equation per computation over the bytes, so that no proof unfolds it. -/

namespace Sys2Proof.Machine

theorem readBytes_three (B : Memory) (a : Nat) :
    readBytes B a 3 = [B.read a, B.read (a + 1), B.read (a + 2)] := rfl

theorem readBytes_four (B : Memory) (a : Nat) :
    readBytes B a 4 = [B.read a, B.read (a + 1), B.read (a + 2), B.read (a + 3)] := rfl

/-- The header decoder on the three bytes it examines (41_header_decoder.md R140, R141). -/
theorem hdrdec_eq (B : Memory) (len p : Nat) :
    hdrdec B len p =
      if p + 4 ≤ len then headerSize (B.read p) (B.read (p + 1)) (B.read (p + 2)) else none := by
  unfold hdrdec memRead
  by_cases h : p + 4 ≤ len
  · rw [if_pos h, if_pos (by exact h)]
    rfl
  · rw [if_neg h, if_neg (by exact h)]

/-- The Xing/Info check (42_metadata_detector.md R171, R174). -/
theorem xingMatch_iff (B : Memory) (len p : Nat) :
    xingMatch B len p = true ↔
      p + 40 ≤ len ∧ (readBytes B (p + 36) 4 = asciiXing ∨ readBytes B (p + 36) 4 = asciiInfo) := by
  unfold xingMatch memRead Config.xingOffset
  by_cases h : p + 40 ≤ len
  · rw [if_pos (by omega)]
    simp [h]
  · rw [if_neg (by omega)]
    simp [h]

/-- The VBRI check (R172, R174). -/
theorem vbriMatch_iff (B : Memory) (len p : Nat) :
    vbriMatch B len p = true ↔ p + 44 ≤ len ∧ readBytes B (p + 40) 4 = asciiVbri := by
  unfold vbriMatch memRead Config.vbriOffset
  by_cases h : p + 44 ≤ len
  · rw [if_pos (by omega)]
    simp [h]
  · rw [if_neg (by omega)]
    simp [h]

theorem vbrdet_iff (B : Memory) (len p : Nat) :
    vbrdet B len p = true ↔ xingMatch B len p = true ∨ vbriMatch B len p = true := by
  simp [vbrdet]

/-- The Tag Skipper's signature check (40_tag_skipper.md R121). -/
theorem tagPresent_iff (B : Memory) (len : Nat) :
    memRead B len 0 3 = some asciiId3 ↔
      3 ≤ len ∧ B.read 0 = 0x49#8 ∧ B.read 1 = 0x44#8 ∧ B.read 2 = 0x33#8 := by
  rw [memRead_eq_some, readBytes_three]
  simp [asciiId3]

/-- A size digit is below 128 (R123). -/
theorem digitOf_lt (b : Option Byte) : digitOf b < 128 := by
  cases b with
  | none => decide
  | some b => revert b; decide

theorem tagSize_lt {a b c d : Nat} (ha : a < 128) (hb : b < 128) (hc : c < 128) (hd : d < 128) :
    tagSize a b c d < 2 ^ 28 := by
  unfold tagSize
  omega

/-- The Tag Skipper's result is at most the largest tag offset of 00_scope.md R10. -/
theorem skipLeadingTag_le (B : Memory) (len : Nat) : skipLeadingTag B len ≤ 268435465 := by
  unfold skipLeadingTag
  split
  · have h := tagSize_lt (digitOf_lt (byteAt B len (Config.tagSizeFieldOffset + 0)))
      (digitOf_lt (byteAt B len (Config.tagSizeFieldOffset + 1)))
      (digitOf_lt (byteAt B len (Config.tagSizeFieldOffset + 2)))
      (digitOf_lt (byteAt B len (Config.tagSizeFieldOffset + 3)))
    unfold tagOffset Config.tagHeaderSize sizeDigit
    omega
  · omega

end Sys2Proof.Machine
end

