-- ==== Sys2Proof/Laws/PerInstr.lean ====
section
/-! SUPPORT. Per-instruction laws about the encoder: every row's encoding has exactly the bytes the table gives it. -/

namespace Sys2Proof.Laws.EncodedLength

/-- The encoding of an instruction is as long as its row says. -/
def Statement (i : Instr) : Prop := (encode i).length = i.byteCount

theorem l3_32k_44100 (padding : Bool) : Statement (.l3_32k_44100 padding) := rfl
theorem l3_32k_48000 (padding : Bool) : Statement (.l3_32k_48000 padding) := rfl
theorem l3_32k_32000 (padding : Bool) : Statement (.l3_32k_32000 padding) := rfl
theorem l3_40k_44100 (padding : Bool) : Statement (.l3_40k_44100 padding) := rfl
theorem l3_40k_48000 (padding : Bool) : Statement (.l3_40k_48000 padding) := rfl
theorem l3_40k_32000 (padding : Bool) : Statement (.l3_40k_32000 padding) := rfl
theorem l3_48k_44100 (padding : Bool) : Statement (.l3_48k_44100 padding) := rfl
theorem l3_48k_48000 (padding : Bool) : Statement (.l3_48k_48000 padding) := rfl
theorem l3_48k_32000 (padding : Bool) : Statement (.l3_48k_32000 padding) := rfl
theorem l3_56k_44100 (padding : Bool) : Statement (.l3_56k_44100 padding) := rfl
theorem l3_56k_48000 (padding : Bool) : Statement (.l3_56k_48000 padding) := rfl
theorem l3_56k_32000 (padding : Bool) : Statement (.l3_56k_32000 padding) := rfl
theorem l3_64k_44100 (padding : Bool) : Statement (.l3_64k_44100 padding) := rfl
theorem l3_64k_48000 (padding : Bool) : Statement (.l3_64k_48000 padding) := rfl
theorem l3_64k_32000 (padding : Bool) : Statement (.l3_64k_32000 padding) := rfl
theorem l3_80k_44100 (padding : Bool) : Statement (.l3_80k_44100 padding) := rfl
theorem l3_80k_48000 (padding : Bool) : Statement (.l3_80k_48000 padding) := rfl
theorem l3_80k_32000 (padding : Bool) : Statement (.l3_80k_32000 padding) := rfl
theorem l3_96k_44100 (padding : Bool) : Statement (.l3_96k_44100 padding) := rfl
theorem l3_96k_48000 (padding : Bool) : Statement (.l3_96k_48000 padding) := rfl
theorem l3_96k_32000 (padding : Bool) : Statement (.l3_96k_32000 padding) := rfl
theorem l3_112k_44100 (padding : Bool) : Statement (.l3_112k_44100 padding) := rfl
theorem l3_112k_48000 (padding : Bool) : Statement (.l3_112k_48000 padding) := rfl
theorem l3_112k_32000 (padding : Bool) : Statement (.l3_112k_32000 padding) := rfl
theorem l3_128k_44100 (padding : Bool) : Statement (.l3_128k_44100 padding) := rfl
theorem l3_128k_48000 (padding : Bool) : Statement (.l3_128k_48000 padding) := rfl
theorem l3_128k_32000 (padding : Bool) : Statement (.l3_128k_32000 padding) := rfl
theorem l3_160k_44100 (padding : Bool) : Statement (.l3_160k_44100 padding) := rfl
theorem l3_160k_48000 (padding : Bool) : Statement (.l3_160k_48000 padding) := rfl
theorem l3_160k_32000 (padding : Bool) : Statement (.l3_160k_32000 padding) := rfl
theorem l3_192k_44100 (padding : Bool) : Statement (.l3_192k_44100 padding) := rfl
theorem l3_192k_48000 (padding : Bool) : Statement (.l3_192k_48000 padding) := rfl
theorem l3_192k_32000 (padding : Bool) : Statement (.l3_192k_32000 padding) := rfl
theorem l3_224k_44100 (padding : Bool) : Statement (.l3_224k_44100 padding) := rfl
theorem l3_224k_48000 (padding : Bool) : Statement (.l3_224k_48000 padding) := rfl
theorem l3_224k_32000 (padding : Bool) : Statement (.l3_224k_32000 padding) := rfl
theorem l3_256k_44100 (padding : Bool) : Statement (.l3_256k_44100 padding) := rfl
theorem l3_256k_48000 (padding : Bool) : Statement (.l3_256k_48000 padding) := rfl
theorem l3_256k_32000 (padding : Bool) : Statement (.l3_256k_32000 padding) := rfl
theorem l3_320k_44100 (padding : Bool) : Statement (.l3_320k_44100 padding) := rfl
theorem l3_320k_48000 (padding : Bool) : Statement (.l3_320k_48000 padding) := rfl
theorem l3_320k_32000 (padding : Bool) : Statement (.l3_320k_32000 padding) := rfl
theorem invalidVersion0 : Statement (.invalidVersion0) := rfl
theorem invalidVersion1 : Statement (.invalidVersion1) := rfl
theorem invalidVersion2 : Statement (.invalidVersion2) := rfl
theorem invalidLayer0 : Statement (.invalidLayer0) := rfl
theorem invalidLayer2 : Statement (.invalidLayer2) := rfl
theorem invalidLayer3 : Statement (.invalidLayer3) := rfl
theorem invalidBitrateFree : Statement (.invalidBitrateFree) := rfl
theorem invalidBitrateRsvd : Statement (.invalidBitrateRsvd) := rfl
theorem invalidSamplerateRsvd : Statement (.invalidSamplerateRsvd) := rfl
theorem invalidNosync : Statement (.invalidNosync) := rfl
theorem id3hdr (a b c d : Nat) : Statement (.id3hdr a b c d) := rfl
theorem id3hdrAbsent : Statement (.id3hdrAbsent) := rfl
theorem sigXing : Statement (.sigXing) := rfl
theorem sigInfo : Statement (.sigInfo) := rfl
theorem sigVbri : Statement (.sigVbri) := rfl
theorem sig4None (w : SigWindow) : Statement (.sig4None w) := rfl
theorem phaseIdle : Statement (.phaseIdle) := rfl
theorem tagskip : Statement (.tagskip) := rfl
theorem walk : Statement (.walk) := rfl
theorem phaseDone : Statement (.phaseDone) := rfl

end Sys2Proof.Laws.EncodedLength
end

