-- ==== Sys2Proof/Laws/Stream.lean ====
section
/-! SUPPORT. What a placed stream reads as, the lengths of the notation's items, and one pass of the reference loop. -/

namespace Sys2Proof.Machine

theorem wf_loadStream (bs : List Byte) : (loadStream bs).wf = true :=
  Memory.wf_writeAll (m := []) rfl 0 bs

/-- A placed stream reads as its bytes, and as nothing placed beyond them. -/
theorem read_loadStream (bs : List Byte) (a : Nat) : (loadStream bs).read a = bs.getD a unlistedByte := by
  rw [loadStream, Memory.read_writeAll (m := []) rfl]
  simp

@[simp] theorem zeroBytes_length (n : Nat) : (zeroBytes n).length = n := by simp [zeroBytes]

@[simp] theorem hdrBytes_length (kbps hz : Nat) (padding : Bool) : (hdrBytes kbps hz padding).length = 4 := rfl

@[simp] theorem id3Bytes_length (size : Nat) : (id3Bytes size).length = 10 := rfl

@[simp] theorem tagBytes_length (size : Nat) : (tagBytes size).length = 10 + size := by simp [tagBytes]

/-- The lengths of 30_encoding.md R101 for a frame that has room for what its item holds. -/
theorem frameBytes_length {kbps hz : Nat} {padding : Bool} (h : 4 ≤ frameSize kbps hz padding) :
    (frameBytes kbps hz padding).length = frameSize kbps hz padding := by
  simp [frameBytes]
  omega

/-- One pass of the loop of 43_frame_walker.md R197. -/
theorem countLoop_exit {B : Memory} {len fuel cursor count : Nat} {seen : Bool} (h : ¬ cursor + 4 < len) :
    countLoop B len fuel cursor count seen = count := by
  cases fuel with
  | zero => rfl
  | succ fuel => exact if_neg h

theorem countLoop_resync {B : Memory} {len fuel cursor count : Nat} {seen : Bool} (h : cursor + 4 < len)
    (hd : hdrdec B len cursor = none) :
    countLoop B len (fuel + 1) cursor count seen = countLoop B len fuel (cursor + 1) count seen := by
  rw [countLoop, if_pos (show cursor + Config.headroom < len from h), hd]

theorem countLoop_skip {B : Memory} {len fuel cursor count n : Nat} (h : cursor + 4 < len)
    (hd : hdrdec B len cursor = some n) (hv : vbrdet B len cursor = true) :
    countLoop B len (fuel + 1) cursor count false = countLoop B len fuel (cursor + n) count true := by
  rw [countLoop, if_pos (show cursor + Config.headroom < len from h), hd]
  simp [hv]

theorem countLoop_accept {B : Memory} {len fuel cursor count n : Nat} {seen : Bool} (h : cursor + 4 < len)
    (hd : hdrdec B len cursor = some n) (hv : seen = true ∨ vbrdet B len cursor = false) :
    countLoop B len (fuel + 1) cursor count seen = countLoop B len fuel (cursor + n) (count + 1) true := by
  rw [countLoop, if_pos (show cursor + Config.headroom < len from h), hd]
  rcases hv with hv | hv <;> simp [hv]

end Sys2Proof.Machine
end

