-- ==== Sys2Proof/Tests/Slice0.lean ====
section
/-! SUPPORT. The model's own tests: well-formedness smoke, decoding of every row, the spec's vectors for the functions,
single steps, and one witness for each statement that has hypotheses. Expected values are the spec's. -/

namespace Sys2Proof.Tests

open Sys2Proof Sys2Proof.Machine

/-! Well-formedness: one ill-formed term for each check (each digit of the tag size), and a well-formed one. -/

theorem test_wf_refuses_first_digit : (Instr.id3hdr 128 0 0 0).wf = false := by decide
theorem test_wf_refuses_second_digit : (Instr.id3hdr 0 128 0 0).wf = false := by decide
theorem test_wf_refuses_third_digit : (Instr.id3hdr 0 0 200 0).wf = false := by decide
theorem test_wf_refuses_fourth_digit : (Instr.id3hdr 0 0 0 128).wf = false := by decide
theorem test_wf_accepts_largest_digits : (Instr.id3hdr 127 127 127 127).wf = true := by decide

/-! Decoding: every row's word, written out from 30_encoding.md R86 (`0xFFFA0000 | bi << 12 | si << 10`, bit 9 the
padding), R87, R90, R93 and 10_state.md R27. -/

theorem test_decode_valid_44100_low :
    [0xFFFA1000, 0xFFFB1200, 0xFFFA2000, 0xFFFB2200, 0xFFFA3000, 0xFFFB3200, 0xFFFA4000,
       0xFFFB4200, 0xFFFA5000, 0xFFFB5200, 0xFFFA6000, 0xFFFB6200, 0xFFFA7000, 0xFFFB7200].map (decodeTableWord 32) =
      [some (.l3_32k_44100 false), some (.l3_32k_44100 true), some (.l3_40k_44100 false),
       some (.l3_40k_44100 true), some (.l3_48k_44100 false), some (.l3_48k_44100 true),
       some (.l3_56k_44100 false), some (.l3_56k_44100 true), some (.l3_64k_44100 false),
       some (.l3_64k_44100 true), some (.l3_80k_44100 false), some (.l3_80k_44100 true),
       some (.l3_96k_44100 false), some (.l3_96k_44100 true)] := by decide

theorem test_decode_valid_44100_high :
    [0xFFFA8000, 0xFFFB8200, 0xFFFA9000, 0xFFFB9200, 0xFFFAA000, 0xFFFBA200, 0xFFFAB000,
       0xFFFBB200, 0xFFFAC000, 0xFFFBC200, 0xFFFAD000, 0xFFFBD200, 0xFFFAE000, 0xFFFBE200].map (decodeTableWord 32) =
      [some (.l3_112k_44100 false), some (.l3_112k_44100 true), some (.l3_128k_44100 false),
       some (.l3_128k_44100 true), some (.l3_160k_44100 false), some (.l3_160k_44100 true),
       some (.l3_192k_44100 false), some (.l3_192k_44100 true), some (.l3_224k_44100 false),
       some (.l3_224k_44100 true), some (.l3_256k_44100 false), some (.l3_256k_44100 true),
       some (.l3_320k_44100 false), some (.l3_320k_44100 true)] := by decide

theorem test_decode_valid_48000_low :
    [0xFFFA1400, 0xFFFB1600, 0xFFFA2400, 0xFFFB2600, 0xFFFA3400, 0xFFFB3600, 0xFFFA4400,
       0xFFFB4600, 0xFFFA5400, 0xFFFB5600, 0xFFFA6400, 0xFFFB6600, 0xFFFA7400, 0xFFFB7600].map (decodeTableWord 32) =
      [some (.l3_32k_48000 false), some (.l3_32k_48000 true), some (.l3_40k_48000 false),
       some (.l3_40k_48000 true), some (.l3_48k_48000 false), some (.l3_48k_48000 true),
       some (.l3_56k_48000 false), some (.l3_56k_48000 true), some (.l3_64k_48000 false),
       some (.l3_64k_48000 true), some (.l3_80k_48000 false), some (.l3_80k_48000 true),
       some (.l3_96k_48000 false), some (.l3_96k_48000 true)] := by decide

theorem test_decode_valid_48000_high :
    [0xFFFA8400, 0xFFFB8600, 0xFFFA9400, 0xFFFB9600, 0xFFFAA400, 0xFFFBA600, 0xFFFAB400,
       0xFFFBB600, 0xFFFAC400, 0xFFFBC600, 0xFFFAD400, 0xFFFBD600, 0xFFFAE400, 0xFFFBE600].map (decodeTableWord 32) =
      [some (.l3_112k_48000 false), some (.l3_112k_48000 true), some (.l3_128k_48000 false),
       some (.l3_128k_48000 true), some (.l3_160k_48000 false), some (.l3_160k_48000 true),
       some (.l3_192k_48000 false), some (.l3_192k_48000 true), some (.l3_224k_48000 false),
       some (.l3_224k_48000 true), some (.l3_256k_48000 false), some (.l3_256k_48000 true),
       some (.l3_320k_48000 false), some (.l3_320k_48000 true)] := by decide

theorem test_decode_valid_32000_low :
    [0xFFFA1800, 0xFFFB1A00, 0xFFFA2800, 0xFFFB2A00, 0xFFFA3800, 0xFFFB3A00, 0xFFFA4800,
       0xFFFB4A00, 0xFFFA5800, 0xFFFB5A00, 0xFFFA6800, 0xFFFB6A00, 0xFFFA7800, 0xFFFB7A00].map (decodeTableWord 32) =
      [some (.l3_32k_32000 false), some (.l3_32k_32000 true), some (.l3_40k_32000 false),
       some (.l3_40k_32000 true), some (.l3_48k_32000 false), some (.l3_48k_32000 true),
       some (.l3_56k_32000 false), some (.l3_56k_32000 true), some (.l3_64k_32000 false),
       some (.l3_64k_32000 true), some (.l3_80k_32000 false), some (.l3_80k_32000 true),
       some (.l3_96k_32000 false), some (.l3_96k_32000 true)] := by decide

theorem test_decode_valid_32000_high :
    [0xFFFA8800, 0xFFFB8A00, 0xFFFA9800, 0xFFFB9A00, 0xFFFAA800, 0xFFFBAA00, 0xFFFAB800,
       0xFFFBBA00, 0xFFFAC800, 0xFFFBCA00, 0xFFFAD800, 0xFFFBDA00, 0xFFFAE800, 0xFFFBEA00].map (decodeTableWord 32) =
      [some (.l3_112k_32000 false), some (.l3_112k_32000 true), some (.l3_128k_32000 false),
       some (.l3_128k_32000 true), some (.l3_160k_32000 false), some (.l3_160k_32000 true),
       some (.l3_192k_32000 false), some (.l3_192k_32000 true), some (.l3_224k_32000 false),
       some (.l3_224k_32000 true), some (.l3_256k_32000 false), some (.l3_256k_32000 true),
       some (.l3_320k_32000 false), some (.l3_320k_32000 true)] := by decide

theorem test_decode_invalid :
    [0xFFE00000, 0xFFE80000, 0xFFF00000, 0xFFF80000, 0xFFFC0000, 0xFFFE0000, 0xFFFA0000, 0xFFFAF000, 0xFFFA0C00, 0x00000000].map (decodeTableWord 32) =
      [some .invalidVersion0, some .invalidVersion1, some .invalidVersion2, some .invalidLayer0, some .invalidLayer2, some .invalidLayer3, some .invalidBitrateFree, some .invalidBitrateRsvd, some .invalidSamplerateRsvd, some .invalidNosync] := by decide

theorem test_decode_signatures :
    [0x58696E67, 0x496E666F, 0x56425249].map (decodeTableWord 32) =
      [some .sigXing, some .sigInfo, some .sigVbri] := by decide

/-- R173: `VBRI` at the +36 window and `Xing` at the +40 window match nothing. -/
theorem test_decode_signature_windows :
    [decodedInstr (decode (.sig4 .at36) [0x56#8, 0x42#8, 0x52#8, 0x49#8]),
     decodedInstr (decode (.sig4 .at40) [0x58#8, 0x69#8, 0x6E#8, 0x67#8]),
     decodedInstr (decode (.sig4 .at36) [0x58#8, 0x49#8, 0x4E#8, 0x47#8])] =
      [some (.sig4None .at36), some (.sig4None .at40), some (.sig4None .at36)] := by decide

/-- `ID3(257)`, `ID3(5000)` with set top bits in the size bytes (R91), and `id3` (V-T12). -/
theorem test_decode_tag :
    [decodeTableWord 80 0x49443303000000000201, decodeTableWord 80 0x4944330400108080A788,
     decodeTableWord 80 0x69643303000000000201, decodeTableWord 24 0x000000] =
      [some (.id3hdr 0 0 2 1), some (.id3hdr 0 0 39 8), some .id3hdrAbsent, some .id3hdrAbsent] := by decide

theorem test_decode_phase :
    [0, 1, 2, 3, 4].map (decodeTableWord 8) =
      [some .phaseIdle, some .tagskip, some .walk, some .phaseDone, none] := by decide

theorem test_decode_short_header : decodedInstr (decode .mpahdr [0xFF#8, 0xFB#8, 0x90#8]) = none := by decide

/-! The spec's vectors for the functions (95_test_vectors.md). -/

/-- HDRDEC of a stream at an offset. -/
def hdrdecOf (bs : List Byte) (p : Nat) : Option Nat := hdrdec (loadStream bs) bs.length p

/-- V-H1 to V-H11. -/
theorem test_hdrdec_valid :
    [[0xFF#8, 0xFB#8, 0x90#8, 0x00#8],
     [0xFF#8, 0xFB#8, 0x92#8, 0x00#8],
     [0xFF#8, 0xFA#8, 0x90#8, 0x00#8],
     [0xFF#8, 0xFB#8, 0x91#8, 0xFF#8],
     [0xFF#8, 0xFB#8, 0x93#8, 0xC4#8],
     [0xFF#8, 0xFB#8, 0x14#8, 0x00#8],
     [0xFF#8, 0xFB#8, 0xEA#8, 0x00#8],
     [0xFF#8, 0xFB#8, 0x54#8, 0x00#8],
     [0xFF#8, 0xFB#8, 0x98#8, 0x00#8],
     [0xFF#8, 0xFB#8, 0x12#8, 0x00#8],
     [0xFF#8, 0xFB#8, 0xE0#8, 0x00#8]].map (hdrdecOf · 0) =
      [some 417, some 418, some 417, some 417, some 418, some 96, some 1441, some 192, some 576, some 105, some 1044] := by decide

/-- V-H12 to V-H24. -/
theorem test_hdrdec_invalid :
    [[0xFF#8, 0xFB#8, 0x00#8, 0x00#8],
     [0xFF#8, 0xFB#8, 0xF0#8, 0x00#8],
     [0xFF#8, 0xFB#8, 0x9C#8, 0x00#8],
     [0xFF#8, 0xF3#8, 0x90#8, 0x00#8],
     [0xFF#8, 0xEB#8, 0x90#8, 0x00#8],
     [0xFF#8, 0xE3#8, 0x90#8, 0x00#8],
     [0xFF#8, 0xFD#8, 0x90#8, 0x00#8],
     [0xFF#8, 0xFF#8, 0x90#8, 0x00#8],
     [0xFF#8, 0xF9#8, 0x90#8, 0x00#8],
     [0xFF#8, 0x7B#8, 0x90#8, 0x00#8],
     [0xFF#8, 0xDB#8, 0x90#8, 0x00#8],
     [0xFE#8, 0xFB#8, 0x90#8, 0x00#8],
     [0xFF#8, 0xFF#8, 0xFF#8, 0xFF#8]].map (hdrdecOf · 0) = List.replicate 13 none := by decide

/-- V-H25 to V-H27: the readable bytes. -/
theorem test_hdrdec_bounds :
    [hdrdecOf [0xFF#8, 0xFB#8, 0x90#8] 0, hdrdecOf [0x00#8, 0xFF#8, 0xFB#8, 0x90#8, 0x00#8] 1,
     hdrdecOf [0x00#8, 0xFF#8, 0xFB#8, 0x90#8, 0x00#8] 2] = [none, some 417, none] := by decide

/-- skip_leading_tag of a stream. -/
def skipOf (bs : List Byte) : Nat := skipLeadingTag (loadStream bs) bs.length

/-- V-T1 to V-T13. -/
theorem test_skip_leading_tag :
    [[],
     [0x49#8, 0x44#8],
     [0x49#8, 0x44#8, 0x33#8],
     [0x49#8, 0x44#8, 0x33#8, 0x03#8, 0x00#8, 0x00#8, 0x7F#8, 0x7F#8, 0x7F#8],
     [0x49#8, 0x44#8, 0x33#8, 0x03#8, 0x00#8, 0x00#8, 0x7F#8, 0x7F#8, 0x7F#8, 0x7F#8],
     [0x49#8, 0x44#8, 0x33#8, 0x04#8, 0x00#8, 0x10#8, 0xFF#8, 0xFF#8, 0xFF#8, 0xFF#8],
     [0x49#8, 0x44#8, 0x33#8, 0x03#8, 0x00#8, 0x00#8, 0x80#8, 0x80#8, 0x80#8, 0x80#8],
     [0x49#8, 0x44#8, 0x33#8, 0x03#8, 0x00#8, 0x00#8, 0x00#8, 0x00#8, 0x01#8, 0x00#8],
     [0x49#8, 0x44#8, 0x33#8, 0x03#8, 0x00#8, 0x00#8, 0x00#8, 0x00#8, 0x02#8, 0x01#8],
     [0x49#8, 0x44#8, 0x33#8, 0x03#8, 0x00#8, 0x00#8, 0x00#8, 0x01#8, 0x00#8, 0x00#8],
     [0x49#8, 0x44#8, 0x33#8, 0x03#8, 0x00#8, 0x00#8, 0x01#8, 0x00#8, 0x00#8, 0x00#8],
     [0x69#8, 0x64#8, 0x33#8, 0x03#8, 0x00#8, 0x00#8, 0x00#8, 0x00#8, 0x02#8, 0x01#8],
     [0x00#8, 0x49#8, 0x44#8, 0x33#8, 0x03#8, 0x00#8, 0x00#8, 0x00#8, 0x00#8, 0x02#8, 0x01#8]].map skipOf =
      [0, 0, 10, 268435338, 268435465, 268435465, 10, 138, 267, 16394, 2097162, 0, 0] := by decide

/-- VBRDET at 0 of a buffer of length `len` with the header `FF FB 90 00` at 0 and these bytes at an offset. -/
def vbrdetOf (bs : List Byte) (offset len : Nat) : Bool :=
  vbrdet ((loadStream [0xFF#8, 0xFB#8, 0x90#8, 0x00#8]).writeAll offset bs) len 0

/-- V-D1 to V-D7 and V-D13. -/
theorem test_vbrdet_positions :
    [vbrdetOf asciiXing 36 417, vbrdetOf asciiInfo 36 417, vbrdetOf asciiVbri 40 417, vbrdetOf asciiVbri 36 417,
     vbrdetOf asciiXing 40 417, vbrdetOf asciiXing 21 417, vbrdetOf [0x58#8, 0x49#8, 0x4E#8, 0x47#8] 36 417,
     vbrdetOf [] 36 417] = [true, true, true, false, false, false, false, false] := by decide

/-- V-D8 to V-D12: windows at the end of the buffer, and both at once. -/
theorem test_vbrdet_edges :
    [vbrdetOf (asciiXing.take 3) 36 39, vbrdetOf asciiXing 36 40, vbrdetOf (asciiVbri.take 3) 40 43,
     vbrdetOf asciiVbri 40 44, vbrdetOf (asciiInfo ++ asciiVbri) 36 417] = [false, true, false, true, true] := by decide

/-- V-W1, V-W2 (program P5), V-W16, V-W17: the reference function at the end of the buffer. -/
theorem test_count_boundaries :
    [countBytes [0xFF#8, 0xFB#8, 0x90#8, 0x00#8], countBytes [0xFF#8, 0xFB#8, 0x90#8, 0x00#8, 0x00#8],
     countBytes [], countBytes asciiId3] = [0, 1, 0, 0] := by decide

/-! Single steps. -/

/-- A state in SCAN, at `cursor`, whose Byte Sequence of length `len` holds these bytes at the cursor. -/
def scanning (bs : List Byte) (cursor len : Nat) (seen : Bool) : State :=
  { State.reset with phase := .scan, cursor := cursor, len := len, seen := seen, mem := Memory.writeAll [] cursor bs }

/-- What a test looks at in a result. -/
def regsOf (r : Result) : Option (Phase × Nat × Nat × Bool) :=
  (nextOf r).map fun t => (t.phase, t.cursor, t.count, t.seen)

/-- R191's example, V-W2: ACCEPT 0 → 417. -/
theorem test_step_accepts : regsOf (step (scanning [0xFF#8, 0xFB#8, 0x90#8, 0x00#8] 0 834 false)) = some (.scan, 417, 1, true) := by decide

/-- P3 steps 3 and 2: the largest frame, then an odd cursor without alignment. -/
theorem test_step_accepts_largest :
    regsOf (step (scanning [0xFF#8, 0xFB#8, 0xEA#8, 0x00#8] 97 2055 true)) = some (.scan, 1538, 1, true) := by decide

/-- P2 step 4: `FF FF FB FF` is layer 3: RESYNC. -/
theorem test_step_resyncs : regsOf (step (scanning [0xFF#8, 0xFF#8, 0xFB#8, 0xFF#8] 2 746 false)) = some (.scan, 3, 0, false) := by decide

/-- V-W6: a header in exactly the last four bytes is not examined. -/
theorem test_step_exits : regsOf (step (scanning [0xFF#8, 0xFB#8, 0x90#8, 0x00#8] 834 838 true)) = some (.done, 834, 0, true) := by decide

/-- P1 step 2: SKIPMETA 267 → 684. -/
theorem test_step_skips_info :
    regsOf (step { (scanning [] 267 1518 false) with
      mem := (loadStream []).writeAll 267 [0xFF#8, 0xFB#8, 0x90#8, 0x00#8] |>.writeAll 303 asciiInfo }) =
      some (.scan, 684, 0, true) := by decide

/-- V-W14: a signature in a later frame is not looked for. -/
theorem test_step_counts_later_xing :
    regsOf (step { (scanning [] 0 1251 true) with
      mem := (loadStream [0xFF#8, 0xFB#8, 0x90#8, 0x00#8]).writeAll 36 asciiXing }) = some (.scan, 417, 1, true) := by decide

/-- P1 step 1: TAGSKIP → 267. -/
theorem test_step_tagskip :
    regsOf (step { State.reset with
      phase := .tag, len := 1518,
      mem := loadStream [0x49#8, 0x44#8, 0x33#8, 0x03#8, 0x00#8, 0x00#8, 0x00#8, 0x00#8, 0x02#8, 0x01#8] }) =
      some (.scan, 267, 0, false) := by decide

/-- P6: an accepted START overwrites what the last run left. -/
theorem test_step_start :
    regsOf (step { State.reset with
      phase := .done, len := 1518, cursor := 1518, count := 2, seen := true,
      inbox := [.write .start 1] }) = some (.tag, 0, 0, false) := by decide

/-- R34: START is ignored during a run; R55: a byte of the run may not be changed. -/
theorem test_host_during_run :
    regsOf (step { State.reset with phase := .scan, len := 9, cursor := 4, inbox := [.write .start 1] }) =
      some (.scan, 4, 0, false) ∧
    nextOf (step { State.reset with phase := .scan, len := 9, inbox := [.place 3 0xFF#8] }) = none := by decide

/-- Fetching: the word of a row, placed by `withFetchWord`, is what the next step runs. -/
theorem test_fetch_header :
    regsOf (step (State.reset.withFetchWord 32 0xFFFBEA00)) = some (.scan, 1441, 1, true) ∧
    regsOf (step (State.reset.withFetchWord 32 0xFFF39000)) = some (.scan, 1, 0, false) := by decide

theorem test_fetch_signature :
    regsOf (step (State.reset.withFetchWord 32 0x58696E67)) = some (.scan, 417, 0, true) ∧
    regsOf (step (State.reset.withFetchWord 32 0x56425249)) = some (.scan, 417, 0, true) := by decide

theorem test_fetch_tag :
    regsOf (step (State.reset.withFetchWord 80 0x49443303000000000201)) = some (.scan, 267, 0, false) ∧
    regsOf (step (State.reset.withFetchWord 24 0x000000)) = some (.scan, 0, 0, false) := by decide

theorem test_fetch_phase :
    [0, 1, 2, 3].map (fun c => regsOf (step (State.reset.withFetchWord 8 c))) =
      [some (.idle, 0, 0, false), some (.scan, 0, 0, false), some (.done, 0, 0, false), some (.done, 0, 0, false)] := by
  decide

/-! Witnesses: for each statement with hypotheses, a state and operands that meet them all. -/

/-- In SCAN at a first valid header (417 bytes) with no signature. -/
def atFrame : State := scanning [0xFF#8, 0xFB#8, 0x90#8, 0x00#8] 0 834 false

/-- In SCAN at a first valid header with `Xing` at +36. -/
def atXing : State := { atFrame with mem := (loadStream [0xFF#8, 0xFB#8, 0x90#8, 0x00#8]).writeAll 36 asciiXing }

/-- In SCAN at a first valid header with `VBRI` at +40. -/
def atVbri : State := { atFrame with mem := (loadStream [0xFF#8, 0xFB#8, 0x90#8, 0x00#8]).writeAll 40 asciiVbri }

/-- In SCAN at a candidate that is no header. -/
def atGarbage : State := scanning [0xFF#8, 0xFF#8, 0xFB#8, 0xFF#8] 2 746 false

/-- In SCAN with exactly four bytes left. -/
def atEnd : State := scanning [0xFF#8, 0xFB#8, 0x90#8, 0x00#8] 834 838 true

/-- Right after an accepted START on five bytes that begin with a header. -/
def started : State :=
  { State.reset with phase := .tag, len := 5, lenIn := 5, mem := loadStream [0xFF#8, 0xFB#8, 0x90#8, 0x00#8] }

theorem started_inv : Inv started :=
  ⟨by decide, by decide, by decide, by decide, by decide, by decide, by decide, by decide, by decide⟩

theorem started_Started : Started started := ⟨rfl, rfl, rfl, rfl⟩

theorem witness_DecodeEncodeRoundTrip :
    ∃ i : Instr, i.wf = true :=
  ⟨.id3hdr 127 0 39 8, by decide⟩

theorem witness_IgnoredBitsDoNotMatter :
    (∃ b1 c1 b2 c2 : Byte, b1 ≠ c1 ∧ b2 ≠ c2 ∧ b1 &&& 0xFE#8 = c1 &&& 0xFE#8 ∧ b2 &&& 0xFE#8 = c2 &&& 0xFE#8) ∧
    ∃ (B B' : Memory) (p : Nat), B ≠ B' ∧ ∀ a, p + 36 ≤ a → a < p + 44 → B.read a = B'.read a :=
  ⟨⟨0xFA#8, 0xFB#8, 0x90#8, 0x91#8, by decide⟩, [(3, 1#8)], [(3, 2#8)], 0, by decide, fun a h _ => by
    simp [Memory.read_cons, show a ≠ 3 by omega]⟩

theorem witness_HdrdecSizeIsBounded :
    ∃ (B : Memory) (len p n : Nat), hdrdec B len p = some n :=
  ⟨atFrame.mem, 4, 0, 417, by decide⟩

theorem witness_HdrdecDependsOnFourBytes :
    ∃ (B B' : Memory) (len len' p p' : Nat), (p + 4 ≤ len ↔ p' + 4 ≤ len') ∧ p ≠ p' ∧
    ∀ k, k < 4 → B.read (p + k) = B'.read (p' + k) :=
  ⟨loadStream [0xFF#8, 0xFB#8, 0x90#8, 0x00#8], loadStream (0x00#8 :: [0xFF#8, 0xFB#8, 0x90#8, 0x00#8]), 4, 5, 0, 1, by decide, by decide, by decide⟩

theorem witness_TagSkipperResult :
    (∃ (B : Memory) (len : Nat), 3 ≤ len ∧ B.read 0 = 0x49#8 ∧ B.read 1 = 0x44#8 ∧ B.read 2 = 0x33#8) ∧
    ∃ (B : Memory) (len : Nat), ¬ (3 ≤ len ∧ B.read 0 = 0x49#8 ∧ B.read 1 = 0x44#8 ∧ B.read 2 = 0x33#8) :=
  ⟨⟨loadStream asciiId3, 3, by decide⟩, loadStream asciiId3, 2, by decide⟩

theorem witness_ValidHeaderIsAccepted :
    ∃ row ∈ sizeTable, ∃ s : State, row.size = 1440 ∧ s.phase = .scan ∧ s.cursor + 4 < s.len ∧
    (s.seen = true ∨ vbrdet s.mem s.len s.cursor = false) :=
  ⟨⟨.l3_320k_32000, 14, 2, 1440⟩, by simp [sizeTable, sizeColumn32000], atFrame, by decide⟩

theorem witness_ValidHeaderIsSkipped :
    ∃ row ∈ sizeTable, ∃ s : State, row.size = 96 ∧ s.phase = .scan ∧ s.cursor + 4 < s.len ∧
    s.seen = false ∧ vbrdet s.mem s.len s.cursor = true :=
  ⟨⟨.l3_32k_48000, 1, 1, 96⟩, by simp [sizeTable, sizeColumn48000], atXing, by decide⟩

theorem witness_InvalidHeaderResyncs :
    ∃ i ∈ invalidRows, ∃ s : State, s.phase = .scan ∧ s.cursor + 4 < s.len :=
  ⟨.invalidNosync, by decide, atGarbage, by decide⟩

theorem witness_NoHeadroomExits :
    ∃ (i : Instr) (s : State), enabledIn i = .scan ∧ s.phase = .scan ∧ s.len ≤ s.cursor + 4 :=
  ⟨.l3_128k_44100 true, atEnd, by decide⟩

theorem witness_TagRowsSetTheCursor :
    ∃ s : State, s.phase = .tag :=
  ⟨started, rfl⟩

theorem witness_TagskipSetsTheCursor :
    ∃ s : State, s.phase = .tag ∧ s.mem ≠ [] :=
  ⟨started, by decide⟩

theorem witness_SignatureSkipsTheFirstFrame :
    (∃ s : State, s.phase = .scan ∧ s.cursor + 4 < s.len ∧ hdrdec s.mem s.len s.cursor = some 417 ∧ s.seen = false) ∧
    (∃ s : State, s.phase = .scan ∧ s.cursor + 4 < s.len ∧ hdrdec s.mem s.len s.cursor = some 417 ∧ s.seen = true) ∧
    ∃ s : State, s.phase = .scan ∧ s.cursor + 4 < s.len ∧ hdrdec s.mem s.len s.cursor = none :=
  ⟨⟨atXing, by decide⟩, ⟨{ atXing with seen := true }, by decide⟩, atGarbage, by decide⟩

theorem witness_NoSignatureLeavesTheOtherWindow :
    (∃ s : State, s.phase = .scan ∧ s.cursor + 4 < s.len ∧ hdrdec s.mem s.len s.cursor = some 417 ∧ s.seen = false ∧
      vbriMatch s.mem s.len s.cursor = true) ∧
    (∃ s : State, s.phase = .scan ∧ s.cursor + 4 < s.len ∧ hdrdec s.mem s.len s.cursor = some 417 ∧ s.seen = false ∧
      xingMatch s.mem s.len s.cursor = true) ∧
    (∃ s : State, s.phase = .scan ∧ s.cursor + 4 < s.len ∧ hdrdec s.mem s.len s.cursor = some 417 ∧ s.seen = false ∧
      xingMatch s.mem s.len s.cursor = false ∧ vbriMatch s.mem s.len s.cursor = false) ∧
    ∃ s : State, s.phase = .scan ∧ s.cursor + 4 < s.len ∧ hdrdec s.mem s.len s.cursor = none :=
  ⟨⟨atVbri, by decide⟩, ⟨atXing, by decide⟩, ⟨atFrame, by decide⟩, atGarbage, by decide⟩

theorem witness_WalkExits :
    ∃ s : State, s.phase = .scan ∧ s.len = s.cursor + 4 :=
  ⟨atEnd, by decide⟩

theorem witness_WalkResyncs :
    ∃ s : State, s.phase = .scan ∧ s.cursor + 4 < s.len ∧ hdrdec s.mem s.len s.cursor = none :=
  ⟨atGarbage, by decide⟩

theorem witness_WalkSkipsTheSummaryFrame :
    ∃ (s : State) (n : Nat), s.phase = .scan ∧ s.cursor + 4 < s.len ∧ hdrdec s.mem s.len s.cursor = some n ∧
    s.seen = false ∧ vbrdet s.mem s.len s.cursor = true :=
  ⟨atXing, 417, by decide⟩

theorem witness_WalkAcceptsTheFrame :
    (∃ s : State, s.phase = .scan ∧ s.cursor + 4 < s.len ∧ hdrdec s.mem s.len s.cursor = some 417 ∧ s.seen = true) ∧
    ∃ s : State, s.phase = .scan ∧ s.cursor + 4 < s.len ∧ hdrdec s.mem s.len s.cursor = some 417 ∧ s.seen = false ∧
      vbrdet s.mem s.len s.cursor = false :=
  ⟨⟨{ atXing with seen := true }, by decide⟩, atFrame, by decide⟩

theorem witness_DetectorIsNotConsultedAgain :
    ∃ (s : State) (m : Memory), s.phase = .scan ∧ s.seen = true ∧ s.mem ≠ m ∧
    ∀ k, k < 4 → s.mem.read (s.cursor + k) = m.read (s.cursor + k) :=
  ⟨{ atXing with seen := true }, atFrame.mem, by decide⟩

theorem witness_IdleAndDoneStandStill :
    (∃ s : State, s.phase = .idle) ∧ ∃ s : State, s.phase = .done :=
  ⟨⟨State.reset, rfl⟩, atEnd.exitRun, rfl⟩

theorem witness_OperationsRunOnlyInTheirPhase :
    (∃ (i : Instr) (s : State), s.phase = enabledIn i) ∧ ∃ (i : Instr) (s : State), s.phase ≠ enabledIn i :=
  ⟨⟨.walk, atFrame, by decide⟩, .tagskip, atFrame, by decide⟩

theorem witness_OperationsWriteNoMemory :
    ∃ (i : Instr) (s t : State), exec i s = .next t :=
  ⟨.walk, atFrame, atFrame.accept 417, rfl⟩

theorem witness_StepRunsThePhaseOperation :
    (∃ (s : State) (i : Instr), decodedInstr (decode .phase [s.phase.code.setWidth 8]) = some i ∧ s.inbox = []) ∧
    ∃ (s : State) (i : Instr) (rest : List HostMove),
      decodedInstr (decode .phase [s.phase.code.setWidth 8]) = some i ∧ s.inbox = .letBlock :: rest :=
  ⟨⟨atFrame, .walk, by decide⟩, { started with inbox := [.letBlock] }, .tagskip, [], by decide⟩

theorem witness_StepRunsTheDecodedHeader :
    ∃ s : State, s.inbox = [] ∧ s.phase = .scan ∧ decode .mpahdr s.headerBytes = .ok (.l3_128k_44100 false) :=
  ⟨atFrame, rfl, rfl, rfl⟩

theorem witness_StepRunsTheDecodedTag :
    ∃ s : State, s.inbox = [] ∧ s.phase = .tag ∧ decode .id3hdr s.tagBytes = .ok (.id3hdr 0 0 2 1) :=
  ⟨{ started with len := 10, mem := loadStream [0x49#8, 0x44#8, 0x33#8, 0x03#8, 0x00#8, 0x00#8, 0x00#8, 0x00#8, 0x02#8, 0x01#8] },
    rfl, rfl, rfl⟩

theorem witness_StepRunsTheDecodedSignature :
    (∃ s : State, s.inbox = [] ∧ s.phase = .scan ∧ decode (.sig4 .at36) (s.windowBytes .at36) = .ok .sigXing) ∧
    ∃ s : State, s.inbox = [] ∧ s.phase = .scan ∧ decode (.sig4 .at40) (s.windowBytes .at40) = .ok (.sig4None .at40) :=
  ⟨⟨atXing, rfl, rfl, rfl⟩, atXing, rfl, rfl, rfl⟩

theorem witness_BlockNeverStops :
    (∃ s : State, s.inbox = []) ∧ (∃ s : State, step s = .refused .lenOutsidePremise) ∧
    ∃ s : State, step s = .refused .byteChangedDuringRun :=
  ⟨⟨atFrame, rfl⟩, ⟨{ State.reset with lenIn := 4294967296, inbox := [.write .start 1] }, by
      simp [step, hostStep, hostWrite, hostGo, Phase.busy, lenPremise, Config.maxFrameSize, Config.regWidth]⟩,
    { started with inbox := [.place 0 0#8] }, rfl⟩

theorem witness_StepKeepsTheInvariant :
    ∃ s t : State, Inv s ∧ step s = .next t :=
  ⟨started, started.enterScan 0, started_inv, rfl⟩

theorem witness_RegistersFitTheirWidth :
    ∃ s : State, Inv s ∧ s.phase ≠ .idle :=
  ⟨started, started_inv, by decide⟩

theorem witness_CountIsBounded :
    ∃ s : State, Inv s ∧ s.len ≠ 0 :=
  ⟨started, started_inv, by decide⟩

theorem witness_CursorIsWrittenInFourWays :
    (∃ s t : State, step s = .next t ∧ s.phase = .scan ∧ hdrdec s.mem s.len s.cursor = some 417 ∧ t.cursor = s.cursor + 417) ∧
    (∃ s t : State, step s = .next t ∧ s.phase = .scan ∧ hdrdec s.mem s.len s.cursor = none ∧ t.cursor = s.cursor + 1) ∧
    (∃ s t : State, step s = .next t ∧ s.phase = .tag ∧ s.cursor ≠ t.cursor) ∧
    (∃ s t : State, step s = .next t ∧ s.phase = .done ∧ s.inbox = [.write .start 1] ∧ s.cursor ≠ 0 ∧ t.cursor = 0 ∧ t.phase = .tag) ∧
    (∃ s t : State, step s = .next t ∧ s.phase = .scan ∧ s.inbox = [.write .start 1] ∧ s.cursor ≠ 0 ∧ t.cursor = s.cursor) ∧
    ∃ s t : State, step s = .next t ∧ s.inbox = [.reset] ∧ s.cursor ≠ 0 ∧ t.cursor = 0 ∧ t.phase = .idle :=
  ⟨⟨atFrame, atFrame.accept 417, rfl, rfl, by decide, rfl⟩, ⟨atGarbage, atGarbage.resync, rfl, rfl, by decide, rfl⟩,
    ⟨{ started with len := 10, mem := loadStream asciiId3 },
      ({ started with len := 10, mem := loadStream asciiId3 } : State).enterScan 10, rfl, rfl, by decide⟩,
    ⟨{ atEnd with phase := .done, inbox := [.write .start 1] }, ({ atEnd with inbox := [] } : State).launch, by
      simp [step, hostStep, hostWrite, hostGo, Phase.busy, lenPremise, Config.maxFrameSize, Config.regWidth, Config.minRegWidth,
        atEnd, scanning, State.popMove, State.launch], rfl, rfl, by decide, rfl, rfl⟩,
    ⟨{ atEnd with inbox := [.write .start 1] }, atEnd, rfl, rfl, rfl, by decide, rfl⟩,
    { atEnd with inbox := [.reset] }, atEnd.hwReset, rfl, rfl, by decide, rfl, rfl⟩

theorem witness_RunProgress :
    ∃ s t : State, s.phase = .scan ∧ blockStep s = .next t :=
  ⟨atFrame, atFrame.accept 417, rfl, rfl⟩

theorem witness_PhaseMovesOnlyForward :
    ∃ s t : State, step s = .next t ∧ s.phase ≠ t.phase :=
  ⟨atEnd, atEnd.exitRun, rfl, by decide⟩

theorem witness_RunIsNotDisturbed :
    ∃ s t : State, (s.phase = .tag ∨ s.phase = .scan) ∧ s.mem.wf = true ∧ (∀ rest, s.inbox ≠ .reset :: rest) ∧
    step s = .next t ∧ ∃ m rest, s.inbox = m :: rest ∧ m ≠ .letBlock :=
  ⟨{ started with inbox := [.write .lenIn 7] }, { started with lenIn := 7 }, by decide, by decide, by simp, rfl,
    .write .lenIn 7, [], rfl, by decide⟩

theorem witness_OnlyBytesBelowLenMatter :
    ∃ (s t : State) (m : Memory), SameBytes s.mem m s.len ∧ s.mem ≠ m ∧ blockStep s = .next t :=
  ⟨{ started with mem := [(5, 1#8)] }, { started with mem := [(5, 1#8)], phase := .scan }, [(5, 2#8)], fun a ha => by
    have h : a ≠ 5 := by simp [started] at ha; omega
    simp [Memory.read_cons, h], by decide, rfl⟩

theorem witness_StepDependsOnTheListedBytes :
    (∃ (s t : State) (m : Memory), s.phase = .tag ∧ s.mem ≠ m ∧
      (∀ a, a ∈ [0, 1, 2, 6, 7, 8, 9] → s.mem.read a = m.read a) ∧ blockStep s = .next t) ∧
    ∃ (s t : State) (m : Memory), s.phase = .scan ∧ s.mem ≠ m ∧
      (∀ k, k ∈ [0, 1, 2, 36, 37, 38, 39, 40, 41, 42, 43] → s.mem.read (s.cursor + k) = m.read (s.cursor + k)) ∧
      blockStep s = .next t :=
  ⟨⟨started, started.enterScan 0, started.mem.write 3 7#8, rfl, by decide, by decide, rfl⟩,
    atXing, atXing.skipMeta 417, atXing.mem.write 3 7#8, rfl, by decide, by decide, rfl⟩

theorem witness_RunCountsTheFrames :
    ∃ s : State, Started s ∧ s.inbox = [] :=
  ⟨started, started_Started, rfl⟩

theorem witness_HostCallReturnsTheCount :
    ∃ bs : List Byte, bs ≠ [] ∧ lenPremise bs.length = true :=
  ⟨[0xFF#8, 0xFB#8, 0x90#8, 0x00#8], by decide⟩

theorem witness_CountDependsOnTheBytesAlone :
    ∃ (s s' t t' : State) (k k' : Nat), Started s ∧ Started s' ∧ s.inbox = [] ∧ s'.inbox = [] ∧ s.len = s'.len ∧
    SameBytes s.mem s'.mem s.len ∧ s ≠ s' ∧ Sys2Proof.core.run k s = .next t ∧ t.phase = .done ∧
    Sys2Proof.core.run k' s' = .next t' ∧ t'.phase = .done :=
  ⟨started, { started with lenIn := 9 }, { started with phase := .done, cursor := 417, count := 1, seen := true },
    { started with lenIn := 9, phase := .done, cursor := 417, count := 1, seen := true }, 3, 4,
    started_Started, ⟨rfl, rfl, rfl, rfl⟩, rfl, rfl, rfl, fun _ _ => rfl, by decide, rfl, rfl, rfl, rfl⟩

theorem witness_ShortBuffersCountZero :
    ∃ len : Nat, len = 4 ∧ len ≤ 4 :=
  ⟨4, rfl, by decide⟩

theorem witness_NoSyncByteCountsZero :
    ∃ (B : Memory) (len : Nat), 4 < len ∧ ∀ a, a < len → B.read a ≠ 0xFF#8 :=
  ⟨loadStream [0x54#8, 0x68#8, 0x65#8], 43, by decide⟩

theorem witness_TrailingBytesDoNotCount :
    ∃ (s t : State) (n k : Nat), Started s ∧ s.inbox = [] ∧ Sys2Proof.core.run n s = .next t ∧ t.phase = .done ∧
    t.cursor = s.len ∧ t.count = 1 ∧ k = 4 ∧ k ≤ 4 :=
  ⟨{ started with len := 417 }, { started with len := 417, phase := .done, cursor := 417, count := 1, seen := true }, 3, 4,
    ⟨rfl, rfl, rfl, rfl⟩, rfl, rfl, rfl, rfl, rfl, rfl, by decide⟩

theorem witness_TagIsSkipped :
    ∃ S : Nat, S = 268435455 ∧ S < 2 ^ 28 :=
  ⟨268435455, rfl, by decide⟩

theorem witness_SummaryFrameIsNotCounted :
    ∃ (kbps hz : Nat) (frames : List (Nat × Nat × Bool)), RateOk kbps hz ∧ frames ≠ [] ∧ ∀ f ∈ frames, RateOk f.1 f.2.1 :=
  ⟨32, 48000, [(320, 32000, true), (128, 44100, false)], by decide⟩

theorem witness_AcceptedStartBeginsARun :
    (∃ (s : State) (v : Nat) (rest : List HostMove), s.inbox = .write .start v :: rest ∧
      (s.phase = .idle ∨ s.phase = .done) ∧ v % 2 = 1 ∧ s.lenIn = 4294965855) ∧
    (∃ (s : State) (v : Nat) (rest : List HostMove), s.inbox = .write .start v :: rest ∧
      (s.phase = .idle ∨ s.phase = .done) ∧ v % 2 = 1 ∧ s.lenIn = 4294965856) ∧
    ∃ (s : State) (v : Nat) (rest : List HostMove), s.inbox = .write .start v :: rest ∧
      (v % 2 = 0 ∨ s.phase = .tag ∨ s.phase = .scan) :=
  ⟨⟨{ State.reset with lenIn := 4294965855, inbox := [.write .start 1] }, 1, [], by decide⟩,
    ⟨{ State.reset with phase := .done, lenIn := 4294965856, inbox := [.write .start 1] }, 1, [], by decide⟩,
    { started with inbox := [.write .start 1] }, 1, [], by decide⟩

theorem witness_HostRegisterAccesses :
    (∃ (s : State) (v : Nat) (rest : List HostMove), s.inbox = .write .lenIn v :: rest) ∧
    (∃ (s : State) (v : Nat) (rest : List HostMove), s.inbox = .write .count v :: rest ∨ s.inbox = .write .status v :: rest) ∧
    ∀ r : HostReg, ∃ (s : State) (rest : List HostMove), s.inbox = .read r :: rest :=
  ⟨⟨{ started with inbox := [.write .lenIn 7] }, 7, [], rfl⟩, ⟨{ started with inbox := [.write .count 7] }, 7, [], .inl rfl⟩,
    fun r => ⟨{ started with inbox := [.read r] }, [], rfl⟩⟩

theorem witness_HostStoresBytes :
    (∃ (s : State) (a : Nat) (b : Byte) (rest : List HostMove), s.inbox = .place a b :: rest ∧ s.mem.wf = true ∧
      (s.phase = .tag ∨ s.phase = .scan) ∧ a < s.len ∧ b ≠ s.mem.read a) ∧
    ∃ (s : State) (a : Nat) (b : Byte) (rest : List HostMove), s.inbox = .place a b :: rest ∧ s.mem.wf = true ∧
      ¬ ((s.phase = .tag ∨ s.phase = .scan) ∧ a < s.len ∧ b ≠ s.mem.read a) :=
  ⟨⟨{ started with inbox := [.place 4 1#8] }, 4, 1#8, [], by decide⟩, { started with inbox := [.place 5 1#8] }, 5, 1#8, [], by decide⟩

theorem witness_HardwareReset :
    ∃ (s : State) (rest : List HostMove), s.inbox = .reset :: rest ∧ s.phase = .scan :=
  ⟨{ atFrame with inbox := [.reset] }, [], by decide⟩

theorem witness_CanonicalMemoriesAreEqual :
    ∃ m m' : Memory, m ≠ [] ∧ m.wf = true ∧ m'.wf = true ∧ ∀ a, m.read a = m'.read a :=
  ⟨atXing.mem, atXing.mem, by decide, by decide, by decide, fun _ => rfl⟩

end Sys2Proof.Tests
end

section
/-! SUPPORT. When the header decoder answers a size, and the bounds the ROMs give that size. -/

namespace Sys2Proof.Machine

/-- The header decoder answers a size exactly when the checks on the three bytes it examines do (41_header_decoder.md
R140, R141). -/
theorem hdrdec_eq_some {B : Memory} {len p n : Nat} :
    hdrdec B len p = some n ↔
      p + 4 ≤ len ∧ headerSize (B.read p) (B.read (p + 1)) (B.read (p + 2)) = some n := by
  rw [hdrdec_eq]
  split <;> simp_all

/-- The checks of R142 and R143 pass the third byte on to the look-ups. -/
theorem headerSize_eq_some {b0 b1 b2 : Byte} {n : Nat} :
    headerSize b0 b1 b2 = some n ↔
      hasSync b0 b1 = true ∧ versionIdOf b1 = Config.supportedVersion ∧ layerOf b1 = Config.supportedLayer ∧
        sizeOfIndices b2 = some n := by
  unfold headerSize
  split_ifs <;> simp_all

/-- Both look-ups of R145 and R146 have to hit before R150 is computed. -/
theorem sizeOfIndices_eq_some {b2 : Byte} {n : Nat} :
    sizeOfIndices b2 = some n ↔
      ∃ kbps hz, romEntry Config.bitrateRom (bitrateIndexOf b2) = some kbps ∧
        romEntry Config.samplerateRom (samplerateIndexOf b2) = some hz ∧ n = frameSize kbps hz (paddingOf b2) := by
  unfold sizeOfIndices
  cases romEntry Config.bitrateRom (bitrateIndexOf b2) <;>
    cases romEntry Config.samplerateRom (samplerateIndexOf b2) <;> simp [eq_comm]

theorem mem_of_romEntry_eq_some {rom : List (Option Nat)} {index v : Nat} (h : romEntry rom index = some v) :
    some v ∈ rom := by
  unfold romEntry at h
  rw [List.getD_eq_getElem?_getD] at h
  cases hi : rom[index]? with
  | none => simp [hi] at h
  | some w =>
    obtain rfl : w = some v := by simpa [hi] using h
    exact List.mem_of_getElem? hi

/-- The least and the largest bitrate of 10_state.md R29. -/
theorem bitrateRom_bounds {index kbps : Nat} (h : romEntry Config.bitrateRom index = some kbps) :
    32 ≤ kbps ∧ kbps ≤ 320 := by
  have hmem := mem_of_romEntry_eq_some h
  simp only [Config.bitrateRom, List.mem_cons, Option.some.injEq, reduceCtorEq, List.not_mem_nil,
    or_false, false_or] at hmem
  omega

/-- The least and the largest sample rate of 10_state.md R30. -/
theorem samplerateRom_bounds {index hz : Nat} (h : romEntry Config.samplerateRom index = some hz) :
    32000 ≤ hz ∧ hz ≤ 48000 := by
  have hmem := mem_of_romEntry_eq_some h
  simp only [Config.samplerateRom, List.mem_cons, Option.some.injEq, reduceCtorEq, List.not_mem_nil,
    or_false] at hmem
  omega

/-- The frame size grows with the bitrate and falls with the sample rate, so the extremes of the two ROMs bound it:
32 kbps at 48000 Hz without padding from below, 320 kbps at 32000 Hz with padding from above (R152). -/
theorem frameSize_bounds {kbps hz : Nat} (hk : 32 ≤ kbps ∧ kbps ≤ 320) (hh : 32000 ≤ hz ∧ hz ≤ 48000)
    (padding : Bool) : 96 ≤ frameSize kbps hz padding ∧ frameSize kbps hz padding ≤ 1441 := by
  have hlow : 96 ≤ 144 * kbps * 1000 / hz := (Nat.le_div_iff_mul_le (by omega)).2 (by omega)
  have hhigh : 144 * kbps * 1000 / hz ≤ 1440 := Nat.div_le_of_le_mul (by omega)
  have hpad : padding.toNat ≤ 1 := Bool.toNat_le padding
  unfold frameSize Config.slotConstant
  omega

/-- A valid header is at least 96 and at most 1441 bytes long (00_scope.md R10). -/
theorem hdrdec_bounds {B : Memory} {len p n : Nat} (h : hdrdec B len p = some n) : 96 ≤ n ∧ n ≤ 1441 := by
  obtain ⟨-, hsize⟩ := hdrdec_eq_some.1 h
  obtain ⟨-, -, -, hidx⟩ := headerSize_eq_some.1 hsize
  obtain ⟨kbps, hz, hkbps, hhz, rfl⟩ := sizeOfIndices_eq_some.1 hidx
  exact frameSize_bounds (bitrateRom_bounds hkbps) (samplerateRom_bounds hhz) _

end Sys2Proof.Machine
end

section
/-! SUPPORT. What is computed over the bytes depends on the bytes below the length alone (20_memory.md R54, R58). -/

namespace Sys2Proof.Machine

variable {B B' : Memory} {len : Nat}

theorem SameBytes.byteAt_eq (h : SameBytes B B' len) (a : Nat) : byteAt B len a = byteAt B' len a := by
  unfold byteAt
  split
  · next ha => rw [h a ha]
  · rfl

theorem SameBytes.memRead_eq (h : SameBytes B B' len) (a n : Nat) : memRead B len a n = memRead B' len a n := by
  unfold memRead
  split
  · next hlen => rw [readBytes_congr fun k _ hk => h k (by omega)]
  · rfl

theorem SameBytes.hdrdec_eq (h : SameBytes B B' len) (p : Nat) : hdrdec B len p = hdrdec B' len p := by
  unfold hdrdec
  rw [h.memRead_eq]

theorem SameBytes.vbrdet_eq (h : SameBytes B B' len) (p : Nat) : vbrdet B len p = vbrdet B' len p := by
  unfold vbrdet xingMatch vbriMatch
  rw [h.memRead_eq, h.memRead_eq]

theorem SameBytes.skipLeadingTag_eq (h : SameBytes B B' len) : skipLeadingTag B len = skipLeadingTag B' len := by
  unfold skipLeadingTag sizeDigit
  simp only [h.memRead_eq, h.byteAt_eq]

end Sys2Proof.Machine
end

section
/-! SUPPORT. Runs: cutting one in two, waiting in DONE, and runs that nothing of the host's interrupts. -/

namespace Sys2Proof.Machine

/-- The block's own step is total (70_reset_and_hazards.md R264, 60_exceptions.md R230) and takes no host move. -/
theorem blockStep_total (s : State) : ∃ t, blockStep s = .next t ∧ t.inbox = s.inbox := by
  rcases blockStep_cases s with ⟨-, h⟩ | ⟨-, h⟩ | ⟨-, h⟩
  · exact ⟨_, h, rfl⟩
  · exact ⟨_, h, State.enterScan_inbox s _⟩
  · exact ⟨_, h, State.applyOutcome_inbox s _⟩

/-- A run that begins with a step to `t` goes on from `t`. -/
theorem run_succ_of_step {M : Host.Core} {s t : M.State} (h : M.step s = .next t) (k : Nat) :
    M.run (k + 1) s = M.run k t := by
  rw [Host.Core.run, h]

/-- A run that begins with `j` steps to `t` goes on from `t`. -/
theorem run_add_of_run {M : Host.Core} {s t : M.State} {j : Nat} (h : M.run j s = .next t) (k : Nat) :
    M.run (j + k) s = M.run k t := by
  induction j generalizing s with
  | zero =>
    cases h
    rw [Nat.zero_add]
  | succ j ih =>
    rw [Nat.succ_add]
    cases hs : M.step s with
    | next u =>
      rw [run_succ_of_step hs] at h ⊢
      exact ih h
    | fault r => simp [Host.Core.run, hs] at h
    | refused r => simp [Host.Core.run, hs] at h

/-- After DONE the state is stable for as long as the host does nothing (R264). -/
theorem run_of_done {s : State} (hi : s.inbox = []) (hp : s.phase = .done) (k : Nat) :
    Sys2Proof.core.run k s = .next s := by
  induction k with
  | zero => rfl
  | succ k ih => rw [run_succ_of_step (M := Sys2Proof.core) ((step_nil hi).trans (blockStep_done hp)), ih]

end Sys2Proof.Machine
end

section
/-! SUPPORT. Two states that a run cannot tell apart. -/

namespace Sys2Proof.Machine

/-- The block's registers are the same and so are the bytes below LEN. LEN_IN, the bytes at or beyond LEN, the host's
moves and what it last read may differ. -/
structure State.Alike (s s' : State) : Prop where
  samePhase : s.phase = s'.phase
  sameLen : s.len = s'.len
  sameCursor : s.cursor = s'.cursor
  sameCount : s.count = s'.count
  sameSeen : s.seen = s'.seen
  sameBytes : SameBytes s.mem s'.mem s.len

namespace State.Alike

variable {s s' : State}

theorem of_started (h : Started s) (h' : Started s') (hlen : s.len = s'.len)
    (hbytes : SameBytes s.mem s'.mem s.len) : s.Alike s' where
  samePhase := h.inTag.trans h'.inTag.symm
  sameLen := hlen
  sameCursor := h.atZero.trans h'.atZero.symm
  sameCount := h.noneCounted.trans h'.noneCounted.symm
  sameSeen := h.noneSeen.trans h'.noneSeen.symm
  sameBytes := hbytes

theorem skipLeadingTag_eq (h : s.Alike s') : skipLeadingTag s.mem s.len = skipLeadingTag s'.mem s'.len := by
  rw [h.sameBytes.skipLeadingTag_eq, h.sameLen]

theorem candidate_eq (h : s.Alike s') : s.candidate = s'.candidate := by
  unfold State.candidate
  rw [h.sameBytes.hdrdec_eq, h.sameLen, h.sameCursor]

theorem isMeta_eq (h : s.Alike s') : s.isMeta = s'.isMeta := by
  unfold State.isMeta
  rw [h.sameBytes.vbrdet_eq, h.sameLen, h.sameCursor]

theorem outcome_eq (h : s.Alike s') (header : Option Nat) (isMeta : Bool) :
    s.outcome header isMeta = s'.outcome header isMeta := by
  unfold State.outcome State.inRange
  rw [h.sameCursor, h.sameLen, h.sameSeen]

theorem enterScan (h : s.Alike s') (r : Nat) : (s.enterScan r).Alike (s'.enterScan r) :=
  { h with samePhase := rfl, sameCursor := rfl }

theorem applyOutcome (h : s.Alike s') (o : WalkOutcome) : (s.applyOutcome o).Alike (s'.applyOutcome o) := by
  cases o with
  | exit => exact { h with samePhase := rfl }
  | resync => exact { h with sameCursor := congrArg (· + 1) h.sameCursor }
  | skipMeta n => exact { h with sameCursor := congrArg (· + n) h.sameCursor, sameSeen := rfl }
  | accept n =>
    exact { h with
      sameCursor := congrArg (· + n) h.sameCursor
      sameCount := congrArg (· + 1) h.sameCount
      sameSeen := rfl }

/-- The block's own step leads alike states to alike states. -/
theorem blockStep_next (h : s.Alike s') {t t' : State} (ht : blockStep s = .next t) (ht' : blockStep s' = .next t') :
    t.Alike t' := by
  cases hp : s.phase with
  | idle =>
    cases (blockStep_idle hp).symm.trans ht
    cases (blockStep_idle (h.samePhase ▸ hp)).symm.trans ht'
    exact h
  | done =>
    cases (blockStep_done hp).symm.trans ht
    cases (blockStep_done (h.samePhase ▸ hp)).symm.trans ht'
    exact h
  | tag =>
    cases (blockStep_tag hp).symm.trans ht
    cases (blockStep_tag (h.samePhase ▸ hp)).symm.trans ht'
    rw [← h.skipLeadingTag_eq]
    exact h.enterScan _
  | scan =>
    cases (blockStep_scan hp).symm.trans ht
    cases (blockStep_scan (h.samePhase ▸ hp)).symm.trans ht'
    rw [← h.candidate_eq, ← h.isMeta_eq, ← h.outcome_eq]
    exact h.applyOutcome _

/-- As many steps of the block lead alike states to alike states. -/
theorem run_next (h : s.Alike s') (hi : s.inbox = []) (hi' : s'.inbox = []) (k : Nat) :
    ∃ t t', Sys2Proof.core.run k s = .next t ∧ Sys2Proof.core.run k s' = .next t' ∧ t.Alike t' ∧
      t.inbox = [] ∧ t'.inbox = [] := by
  induction k generalizing s s' with
  | zero => exact ⟨s, s', rfl, rfl, h, hi, hi'⟩
  | succ k ih =>
    obtain ⟨u, hu, hiu⟩ := blockStep_total s
    obtain ⟨u', hu', hiu'⟩ := blockStep_total s'
    rw [run_succ_of_step (M := Sys2Proof.core) ((step_nil hi).trans hu),
      run_succ_of_step (M := Sys2Proof.core) ((step_nil hi').trans hu')]
    exact ih (h.blockStep_next hu hu') (hiu.trans hi) (hiu'.trans hi')

/-- Of two alike states the one that runs at least as long ends in DONE with the other's count: it meets DONE with the
other, and waiting there changes nothing. -/
theorem count_eq_of_done (h : s.Alike s') (hi : s.inbox = []) (hi' : s'.inbox = []) {t t' : State} {k : Nat} (j : Nat)
    (ht : Sys2Proof.core.run k s = .next t) (hp : t.phase = .done)
    (ht' : Sys2Proof.core.run (k + j) s' = .next t') : t.count = t'.count := by
  obtain ⟨u, u', hu, hu', halike, -, hiu'⟩ := h.run_next hi hi' k
  cases hu.symm.trans ht
  rw [run_add_of_run hu', run_of_done hiu' (halike.samePhase ▸ hp)] at ht'
  cases ht'
  exact halike.sameCount

theorem symm (h : s.Alike s') : s'.Alike s where
  samePhase := h.samePhase.symm
  sameLen := h.sameLen.symm
  sameCursor := h.sameCursor.symm
  sameCount := h.sameCount.symm
  sameSeen := h.sameSeen.symm
  sameBytes a ha := (h.sameBytes a (h.sameLen ▸ ha)).symm

end State.Alike

end Sys2Proof.Machine
end

section
/-! The statements of 00_scope.md. -/

namespace Sys2Proof.Proofs.Scope

open Sys2Proof.Machine

/-- Settles O8: the extremes of the two ROMs bound the frame-size formula. -/
theorem hdrdecSizeIsBounded : Obligations.HdrdecSizeIsBounded :=
  fun _ _ _ _ => hdrdec_bounds

/-- Settles O46: the two started states are alike, the block's steps keep that, and the run that is in DONE first
waits there for the other. -/
theorem countDependsOnTheBytesAlone : Obligations.CountDependsOnTheBytesAlone := by
  intro s s' t t' k k' hs hs' hi hi' hlen hbytes ht hp ht' hp'
  have halike : s.Alike s' := .of_started hs hs' hlen hbytes
  rcases Nat.le_total k k' with hk | hk
  · obtain ⟨j, rfl⟩ := Nat.exists_eq_add_of_le hk
    exact halike.count_eq_of_done hi hi' j ht hp ht'
  · obtain ⟨j, rfl⟩ := Nat.exists_eq_add_of_le hk
    exact (halike.symm.count_eq_of_done hi' hi j ht' hp' ht).symm

end Sys2Proof.Proofs.Scope
end

section
/-! SUPPORT. Everything the block's own step and a step of the machine can answer, one constructor per way. -/

namespace Sys2Proof.Machine

/-- The ways the block moves from `s` (10_state.md R27; 40_tag_skipper.md R120; 43_frame_walker.md R191 to R196). -/
inductive BlockMove (s : State) : State → Prop
  | stand (hp : s.phase = .idle ∨ s.phase = .done) : BlockMove s s
  | tagskip (hp : s.phase = .tag) : BlockMove s (s.enterScan (skipLeadingTag s.mem s.len))
  | exit (hp : s.phase = .scan) (hend : s.len ≤ s.cursor + 4) : BlockMove s s.exitRun
  | resync (hp : s.phase = .scan) (hroom : s.cursor + 4 < s.len) (hhdr : hdrdec s.mem s.len s.cursor = none) :
      BlockMove s s.resync
  | skipMeta (n : Nat) (hp : s.phase = .scan) (hroom : s.cursor + 4 < s.len)
      (hhdr : hdrdec s.mem s.len s.cursor = some n) (hseen : s.seen = false) (hmeta : s.isMeta = true) :
      BlockMove s (s.skipMeta n)
  | accept (n : Nat) (hp : s.phase = .scan) (hroom : s.cursor + 4 < s.len)
      (hhdr : hdrdec s.mem s.len s.cursor = some n) (hframe : s.seen = true ∨ s.isMeta = false) :
      BlockMove s (s.accept n)

theorem blockMove_of_blockStep {s t : State} (h : blockStep s = .next t) : BlockMove s t := by
  rcases blockStep_cases s with ⟨hp, hb⟩ | ⟨hp, hb⟩ | ⟨hp, hb⟩
  · cases hb.symm.trans h
    exact .stand hp
  · cases hb.symm.trans h
    exact .tagskip hp
  · have hw : walkOn s.candidate s.isMeta s = .next t := (whenEnabled_of hp _).trans (hb.symm.trans h)
    obtain ⟨-, ⟨hend, rfl⟩ | ⟨hroom, hhdr, rfl⟩ | ⟨hroom, hseen, hmeta, n, hhdr, rfl⟩ |
      ⟨hroom, hframe, n, hhdr, rfl⟩⟩ := walkOn_next hw
    · exact .exit hp (Nat.le_of_not_lt hend)
    · exact .resync hp hroom hhdr
    · exact .skipMeta n hp hroom hhdr hseen hmeta
    · exact .accept n hp hroom hhdr hframe

/-- The ways the machine moves from `s`: the block's own, or the host's oldest move (10_state.md R33 to R40). In all of
them the host's moves that are left are `rest`. -/
inductive MachineMove (s : State) : State → Prop
  | block (rest : List HostMove) (hi : (s.inbox = [] ∧ rest = []) ∨ s.inbox = .letBlock :: rest) {t : State}
      (hb : BlockMove (s.popMove rest) t) : MachineMove s t
  | launch (v : Nat) (rest : List HostMove) (hi : s.inbox = .write .start v :: rest) (hgo : v % 2 = 1)
      (hfree : s.phase.busy = false) (hlen : lenPremise s.lenIn = true) : MachineMove s (s.popMove rest).launch
  | ignoredWrite (r : HostReg) (v : Nat) (rest : List HostMove) (hi : s.inbox = .write r v :: rest) (hr : r ≠ .lenIn)
      (hgo : r = .start → v % 2 = 1 → s.phase.busy = true) : MachineMove s (s.popMove rest)
  | setLenIn (v : Nat) (rest : List HostMove) (hi : s.inbox = .write .lenIn v :: rest) :
      MachineMove s ((s.popMove rest).setLenIn v)
  | answer (r : HostReg) (rest : List HostMove) (hi : s.inbox = .read r :: rest) :
      MachineMove s ((s.popMove rest).answer (hostRead r s))
  | store (a : Nat) (b : Byte) (rest : List HostMove) (hi : s.inbox = .place a b :: rest)
      (hkeep : s.phase.busy = false ∨ s.len ≤ a ∨ b = s.mem.read a) : MachineMove s ((s.popMove rest).store a b)
  | hwReset (rest : List HostMove) (hi : s.inbox = .reset :: rest) : MachineMove s (s.popMove rest).hwReset

theorem machineMove_of_hostWrite {s t : State} {r : HostReg} {v : Nat} {rest : List HostMove}
    (hi : s.inbox = .write r v :: rest) (h : hostWrite r v (s.popMove rest) = .next t) : MachineMove s t := by
  rcases hostWrite_cases r v (s.popMove rest) with ⟨rfl, hgo, hw⟩ | ⟨rfl, hw⟩ | ⟨hr, hgo, hw⟩ <;> rw [hw] at h
  · rcases hostGo_cases (s.popMove rest) with ⟨hbusy, hg⟩ | ⟨hfree, hlen, hg⟩ | ⟨-, -, hg⟩ <;> cases hg.symm.trans h
    · exact .ignoredWrite _ v rest hi (by decide) fun _ _ => hbusy
    · exact .launch v rest hi hgo hfree hlen
  · cases h
    exact .setLenIn v rest hi
  · cases h
    exact .ignoredWrite r v rest hi hr fun hs hv => absurd hv (hgo hs)

theorem machineMove_of_step {s t : State} (h : step s = .next t) : MachineMove s t := by
  cases hi : s.inbox with
  | nil =>
    have hpop : s.popMove [] = s := by rw [← hi]; rfl
    rw [step_nil hi] at h
    exact .block [] (.inl ⟨hi, rfl⟩) (hpop.symm ▸ blockMove_of_blockStep h)
  | cons m rest =>
    rw [step_cons hi] at h
    cases m with
    | letBlock => exact .block rest (.inr hi) (blockMove_of_blockStep h)
    | write r v => exact machineMove_of_hostWrite hi h
    | read r =>
      cases h
      cases r <;> exact .answer _ rest hi
    | place a b =>
      rcases hostStore_cases a b (s.popMove rest) with ⟨-, -, -, hs⟩ | ⟨hkeep, hs⟩ <;> cases hs.symm.trans h
      exact .store a b rest hi hkeep
    | reset =>
      cases h
      exact .hwReset rest hi

end Sys2Proof.Machine
end

section
/-! SUPPORT. When a phase is busy, what START then answers, and the width premise as a bound. -/

namespace Sys2Proof.Machine

theorem Phase.busy_eq_true {p : Phase} : p.busy = true ↔ p = .tag ∨ p = .scan := by cases p <;> decide

theorem Phase.busy_eq_false {p : Phase} : p.busy = false ↔ p = .idle ∨ p = .done := by cases p <;> decide

/-- The width premise for W = 32 (10_state.md R31). -/
theorem lenPremise_iff {len : Nat} : lenPremise len = true ↔ len ≤ 4294965855 := by
  rw [lenPremise, Bool.and_eq_true, decide_eq_true_iff, decide_eq_true_iff]
  unfold Config.minRegWidth Config.regWidth Config.maxFrameSize
  omega

theorem hostGo_of_busy {s : State} (h : s.phase.busy = true) : hostGo s = .next s := if_pos h

theorem hostGo_of_lenPremise {s : State} (h : s.phase.busy = false) (hlen : lenPremise s.lenIn = true) :
    hostGo s = .next s.launch := by
  simp [hostGo, h, hlen]

theorem hostGo_of_not_lenPremise {s : State} (h : s.phase.busy = false) (hlen : lenPremise s.lenIn = false) :
    hostGo s = .refused .lenOutsidePremise := by
  simp [hostGo, h, hlen]

theorem hostWrite_start_of_go {v : Nat} (h : v % 2 = 1) (s : State) : hostWrite .start v s = hostGo s := if_pos h

theorem hostWrite_start_of_not_go {v : Nat} (h : v % 2 = 0) (s : State) : hostWrite .start v s = .next s :=
  if_neg (by omega)

end Sys2Proof.Machine
end

section
/-! SUPPORT. What the safety invariant needs of each register write, and the moves it is kept by. -/

namespace Sys2Proof.Machine

variable {s t : State}

theorem inv_reset : Inv State.reset where
  memCanonical := reset_mem_wf
  lenInPremise := lenPremise_iff.2 (Nat.zero_le _)
  idleIsReset _ := ⟨rfl, rfl, rfl, rfl⟩
  tagIsFresh := nofun
  unseenUncounted _ := rfl
  cursorBounded := Nat.zero_le _
  countBounded := Nat.le_refl 0
  lastFrameInside := .inl rfl
  doneIsPastEnd := nofun

/-- In SCAN the clauses about the other phases ask nothing. -/
theorem Inv.of_scan (hp : t.phase = .scan) (hmem : t.mem.wf = true) (hlen : lenPremise t.len = true)
    (hseen : t.seen = false → t.count = 0) (hcursor : t.cursor ≤ max 268435465 (t.len + 1436))
    (hcount : 96 * t.count ≤ t.cursor) (hlast : t.count = 0 ∨ 96 * (t.count - 1) + 4 < t.len) : Inv t where
  memCanonical := hmem
  lenInPremise := hlen
  idleIsReset h := by simp [hp] at h
  tagIsFresh h := by simp [hp] at h
  unseenUncounted := hseen
  cursorBounded := hcursor
  countBounded := hcount
  lastFrameInside := hlast
  doneIsPastEnd h := by simp [hp] at h

/-- A move of CURSOR by at most 1441 from a candidate with headroom passes LEN by at most 1436. -/
theorem State.cursor_add_le {n : Nat} (hroom : s.cursor + 4 < s.len) (hn : n ≤ 1441) :
    s.cursor + n ≤ max 268435465 (s.len + 1436) :=
  le_max_of_le_right (by omega)

namespace Inv

/-- Nothing is counted before TAGSKIP, so the CURSOR it sets bounds the COUNT. -/
theorem enterScan (h : Inv s) (hp : s.phase = .tag) {r : Nat} (hr : r ≤ 268435465) : Inv (s.enterScan r) := by
  obtain ⟨-, hcount, -⟩ := h.tagIsFresh hp
  exact .of_scan rfl h.memCanonical h.lenInPremise h.unseenUncounted (le_max_of_le_left hr)
    (by rw [State.enterScan_count, hcount]; exact Nat.zero_le _) (.inl hcount)

theorem exitRun (h : Inv s) (hend : s.len ≤ s.cursor + 4) : Inv s.exitRun :=
  { h with idleIsReset := nofun, tagIsFresh := nofun, doneIsPastEnd := fun _ => hend }

theorem resync (h : Inv s) (hp : s.phase = .scan) (hroom : s.cursor + 4 < s.len) : Inv s.resync :=
  .of_scan hp h.memCanonical h.lenInPremise h.unseenUncounted (State.cursor_add_le hroom (by omega))
    (Nat.le_add_right_of_le h.countBounded) h.lastFrameInside

theorem skipMeta (h : Inv s) (hp : s.phase = .scan) (hroom : s.cursor + 4 < s.len) {n : Nat} (hn : n ≤ 1441) :
    Inv (s.skipMeta n) :=
  .of_scan hp h.memCanonical h.lenInPremise nofun (State.cursor_add_le hroom hn)
    (Nat.le_add_right_of_le h.countBounded) h.lastFrameInside

/-- The frame counted last stood at the old CURSOR, which had headroom, and CURSOR moves by at least 96. -/
theorem accept (h : Inv s) (hp : s.phase = .scan) (hroom : s.cursor + 4 < s.len) {n : Nat}
    (hn : 96 ≤ n ∧ n ≤ 1441) : Inv (s.accept n) := by
  have hcount := h.countBounded
  refine .of_scan hp h.memCanonical h.lenInPremise nofun (State.cursor_add_le hroom hn.2) ?_ (.inr ?_)
  · rw [State.accept_count, State.accept_cursor]
    omega
  · rw [State.accept_count, State.accept_len]
    omega

theorem blockMove (h : Inv s) (hb : BlockMove s t) : Inv t := by
  cases hb with
  | stand => exact h
  | tagskip hp => exact h.enterScan hp (skipLeadingTag_le _ _)
  | exit _ hend => exact h.exitRun hend
  | resync hp hroom => exact h.resync hp hroom
  | skipMeta n hp hroom hhdr => exact h.skipMeta hp hroom (hdrdec_bounds hhdr).2
  | accept n hp hroom hhdr => exact h.accept hp hroom (hdrdec_bounds hhdr)

/-- The pending moves, LEN_IN and the value last read are in no clause. -/
theorem popMove (h : Inv s) (rest : List HostMove) : Inv (s.popMove rest) := { h with }

theorem setLenIn (h : Inv s) (v : Nat) : Inv (s.setLenIn v) := { h with }

theorem answer (h : Inv s) (v : Nat) : Inv (s.answer v) := { h with }

theorem store (h : Inv s) (a : Nat) (b : Byte) : Inv (s.store a b) :=
  { h with memCanonical := Memory.wf_write h.memCanonical a b }

theorem hwReset (h : Inv s) : Inv s.hwReset := { inv_reset with memCanonical := h.memCanonical }

theorem launch (h : Inv s) (hlen : lenPremise s.lenIn = true) : Inv s.launch where
  memCanonical := h.memCanonical
  lenInPremise := hlen
  idleIsReset := nofun
  tagIsFresh _ := ⟨rfl, rfl, rfl⟩
  unseenUncounted _ := rfl
  cursorBounded := Nat.zero_le _
  countBounded := Nat.le_refl 0
  lastFrameInside := .inl rfl
  doneIsPastEnd := nofun

theorem machineMove (h : Inv s) (hm : MachineMove s t) : Inv t := by
  cases hm with
  | block rest _ hb => exact (h.popMove rest).blockMove hb
  | launch _ rest _ _ _ hlen => exact (h.popMove rest).launch hlen
  | ignoredWrite _ _ rest => exact h.popMove rest
  | setLenIn v rest => exact (h.popMove rest).setLenIn v
  | answer _ rest => exact (h.popMove rest).answer _
  | store a b rest => exact (h.popMove rest).store a b
  | hwReset rest => exact (h.popMove rest).hwReset

theorem len_le (h : Inv s) : s.len ≤ 4294965855 := lenPremise_iff.1 h.lenInPremise

theorem cursor_add_four_lt (h : Inv s) : s.cursor + 4 < 2 ^ 32 := by
  have hlen := h.len_le
  have hcursor := h.cursorBounded
  omega

end Inv

end Sys2Proof.Machine
end

section
/-! SUPPORT. Every operation is a register write guarded by its phase; a step of the block with another memory. -/

namespace Sys2Proof.Machine

/-- The phase that guards each row's meaning is the one the row is enabled in (10_state.md R27). -/
theorem exec_eq_whenEnabled (i : Instr) (s : State) : ∃ t, exec i s = whenEnabled (enabledIn i) s t := by
  cases i with
  | sig4None w => cases w <;> exact ⟨_, rfl⟩
  | _ => exact ⟨_, rfl⟩

/-- A WALK outcome is applied to the registers alone. -/
theorem State.applyOutcome_withMem (s : State) (m : Memory) (o : WalkOutcome) :
    ({ s with mem := m } : State).applyOutcome o = { s.applyOutcome o with mem := m } := by
  cases o <;> rfl

theorem State.Alike.withMem {s : State} {m : Memory} (h : SameBytes s.mem m s.len) : s.Alike { s with mem := m } :=
  ⟨rfl, rfl, rfl, rfl, rfl, h⟩

end Sys2Proof.Machine
end

section
/-! The statements of 10_state.md. -/

namespace Sys2Proof.Proofs.BlockState

open Sys2Proof.Machine

/-- Settles O35: each move the machine can make keeps the invariant. -/
theorem stepKeepsTheInvariant : Obligations.StepKeepsTheInvariant :=
  fun _ _ hinv hstep => hinv.machineMove (machineMove_of_step hstep)

/-- Settles O27: every operation is guarded by the phase it is enabled in. -/
theorem operationsRunOnlyInTheirPhase : Obligations.OperationsRunOnlyInTheirPhase := by
  intro i s
  obtain ⟨t, ht⟩ := exec_eq_whenEnabled i s
  rw [ht]
  exact ⟨fun hp => ⟨t, whenEnabled_of hp t⟩, fun hp => whenEnabled_of_ne hp t⟩

/-- Settles O36: CURSOR passes LEN by at most 1436, and the width premise leaves room for 1441. -/
theorem registersFitTheirWidth : Obligations.RegistersFitTheirWidth := by
  intro s hinv
  have hlen : s.len < 2 ^ 32 := by
    have := hinv.len_le
    omega
  have hcursor := hinv.cursor_add_four_lt
  have hcount := hinv.countBounded
  refine ⟨hlen, hcursor, by omega, ?_⟩
  rw [BitVec.lt_def, BitVec.toNat_add, BitVec.toNat_ofNat, BitVec.toNat_ofNat, BitVec.toNat_ofNat]
  omega

/-- Settles O37: all counted frames but the last lie below LEN - 4, and each is at least 96 bytes long. -/
theorem countIsBounded : Obligations.CountIsBounded := by
  intro s hinv
  have hlast := hinv.lastFrameInside
  omega

/-- Settles O38: of the moves only an accepted START, the reset, TAGSKIP, and WALK with headroom write CURSOR. -/
theorem cursorIsWrittenInFourWays : Obligations.CursorIsWrittenInFourWays := by
  intro s t hstep
  cases machineMove_of_step hstep with
  | block rest _ hb =>
    cases hb with
    | stand | exit => exact .inl rfl
    | tagskip hp => exact .inr (.inr (.inr (.inl ⟨hp, rfl⟩)))
    | resync hp hroom hhdr => exact .inr (.inr (.inr (.inr ⟨hp, hroom, .inl ⟨hhdr, rfl⟩⟩)))
    | skipMeta n hp hroom hhdr | accept n hp hroom hhdr =>
      obtain ⟨hlow, hhigh⟩ := hdrdec_bounds hhdr
      exact .inr (.inr (.inr (.inr ⟨hp, hroom, .inr ⟨n, hhdr, hlow, hhigh, rfl⟩⟩)))
  | launch v rest hi hgo hfree => exact .inr (.inl ⟨rfl, Phase.busy_eq_false.1 hfree, rfl, v, rest, hi, hgo⟩)
  | hwReset rest hi => exact .inr (.inr (.inl ⟨rfl, rfl, rest, hi⟩))
  | ignoredWrite | setLenIn | answer | store => exact .inl rfl

/-- Settles O40: of the moves only an accepted START, TAGSKIP, EXIT and the reset write PHASE. -/
theorem phaseMovesOnlyForward : Obligations.PhaseMovesOnlyForward := by
  intro s t hstep
  cases machineMove_of_step hstep with
  | block rest _ hb =>
    cases hb with
    | tagskip hp => exact .inr (.inr (.inl ⟨hp, rfl⟩))
    | exit hp hend => exact .inr (.inr (.inr (.inl ⟨hp, rfl, hend⟩)))
    | stand | resync | skipMeta | accept => exact .inl rfl
  | launch v rest hi hgo hfree => exact .inr (.inl ⟨Phase.busy_eq_false.1 hfree, rfl, v, rest, hi, hgo⟩)
  | hwReset rest hi => exact .inr (.inr (.inr (.inr ⟨rfl, rest, hi⟩)))
  | ignoredWrite | setLenIn | answer | store => exact .inl rfl

/-- Settles O42: the Tag Skipper's result and the WALK outcome are the same for alike states. -/
theorem onlyBytesBelowLenMatter : Obligations.OnlyBytesBelowLenMatter := by
  intro s t m hbytes hstep
  have halike : s.Alike { s with mem := m } := .withMem hbytes
  rcases blockStep_cases s with ⟨hp, hb⟩ | ⟨hp, hb⟩ | ⟨hp, hb⟩ <;> cases hb.symm.trans hstep
  · rcases hp with hp | hp
    · exact blockStep_idle hp
    · exact blockStep_done hp
  · rw [blockStep_tag (s := { s with mem := m }) hp, ← halike.skipLeadingTag_eq]
    rfl
  · rw [blockStep_scan (s := { s with mem := m }) hp, ← halike.candidate_eq, ← halike.isMeta_eq, ← halike.outcome_eq,
      State.applyOutcome_withMem]

/-- Settles O26: each of the two operations is enabled in its phase, and writes nothing. -/
theorem idleAndDoneStandStill : Obligations.IdleAndDoneStandStill :=
  fun s => ⟨fun hp => whenEnabled_of hp s, fun hp => whenEnabled_of hp s⟩

/-- Settles O34. -/
theorem invariantAtReset : Obligations.InvariantAtReset := inv_reset

/-- Settles O52: whether START launches, is refused or is ignored, by PHASE, GO and the width premise. -/
theorem acceptedStartBeginsARun : Obligations.AcceptedStartBeginsARun := by
  intro s v rest hi
  have hstep : step s = hostWrite .start v (s.popMove rest) := step_cons hi
  rw [hstep]
  refine ⟨fun hp hgo hlen => ?_, fun hp hgo hlen => ?_, fun h => ?_⟩
  · rw [hostWrite_start_of_go hgo]
    exact hostGo_of_lenPremise (Phase.busy_eq_false.2 hp) (lenPremise_iff.2 hlen)
  · rw [hostWrite_start_of_go hgo]
    refine hostGo_of_not_lenPremise (Phase.busy_eq_false.2 hp) (Bool.eq_false_iff.2 fun hpremise => ?_)
    exact absurd (lenPremise_iff.1 hpremise) (Nat.not_le_of_lt hlen)
  · rcases Nat.mod_two_eq_zero_or_one v with hzero | hgo
    · exact hostWrite_start_of_not_go hzero _
    · rw [hostWrite_start_of_go hgo]
      exact hostGo_of_busy (Phase.busy_eq_true.2 (h.resolve_left (by omega)))

/-- Settles O53: what each register access answers, once it is the oldest move. -/
theorem hostRegisterAccesses : Obligations.HostRegisterAccesses := by
  intro s v rest
  refine ⟨fun hi => step_cons hi, ?_, fun hi => step_cons hi, fun hi => step_cons hi, fun hi => step_cons hi,
    fun hi => ?_⟩
  · rintro (hi | hi) <;> exact step_cons hi
  · rw [step_cons hi]
    unfold hostStep hostRead
    cases hp : s.phase <;> simp [hp, Phase.code, State.answer, State.popMove]

/-- Settles O55: the reset as the oldest move is answered in every phase alike. -/
theorem hardwareReset : Obligations.HardwareReset :=
  ⟨fun _ _ hi => step_cons hi, rfl, rfl, rfl, rfl, rfl, rfl⟩

end Sys2Proof.Proofs.BlockState
end

section
/-! SUPPORT. What an operation writes, whichever row it is of. -/

namespace Sys2Proof.Machine

/-- Everything an operation can answer: the register writes of a WALK outcome, those of TAGSKIP, or the state itself. -/
theorem exec_next {i : Instr} {s t : State} (h : exec i s = .next t) :
    (∃ o, t = s.applyOutcome o) ∨ (∃ r, t = s.enterScan r) ∨ t = s := by
  cases i with
  | id3hdr | id3hdrAbsent | tagskip => exact .inr (.inl ⟨_, (whenEnabled_next.1 h).2⟩)
  | phaseIdle | phaseDone => exact .inr (.inr (whenEnabled_next.1 h).2)
  | sig4None w => cases w <;> exact .inl ⟨_, (whenEnabled_next.1 h).2⟩
  | _ => exact .inl ⟨_, (whenEnabled_next.1 h).2⟩

end Sys2Proof.Machine
end

section
/-! SUPPORT. Which bytes each computation over the Byte Sequence reads (20_memory.md R54). -/

namespace Sys2Proof.Machine

variable {B B' : Memory}

theorem memRead_congr {a n : Nat} (h : ∀ k, k < n → B.read (a + k) = B'.read (a + k)) (len : Nat) :
    memRead B len a n = memRead B' len a n := by
  have hbytes : readBytes B a n = readBytes B' a n := readBytes_congr fun c hlow hhigh => by
    obtain ⟨k, rfl⟩ := Nat.exists_eq_add_of_le hlow
    exact h k (by omega)
  rw [memRead, memRead, hbytes]

/-- A size digit is that of one byte. -/
theorem sizeDigit_congr {k : Nat} (h : B.read (6 + k) = B'.read (6 + k)) (len : Nat) :
    sizeDigit B len k = sizeDigit B' len k := by
  unfold sizeDigit byteAt Config.tagSizeFieldOffset
  rw [h]

/-- The Tag Skipper reads the three bytes of the signature and the four of the size. -/
theorem skipLeadingTag_congr (hsig : ∀ k, k < 3 → B.read (0 + k) = B'.read (0 + k))
    (hsize : ∀ k, k < 4 → B.read (6 + k) = B'.read (6 + k)) (len : Nat) :
    skipLeadingTag B len = skipLeadingTag B' len := by
  unfold skipLeadingTag
  rw [memRead_congr hsig, sizeDigit_congr (hsize 0 (by decide)), sizeDigit_congr (hsize 1 (by decide)),
    sizeDigit_congr (hsize 2 (by decide)), sizeDigit_congr (hsize 3 (by decide))]

/-- The header decoder examines the first three bytes of the candidate (41_header_decoder.md R148). -/
theorem hdrdec_congr {p : Nat} (h : ∀ k, k < 3 → B.read (p + k) = B'.read (p + k)) (len : Nat) :
    hdrdec B len p = hdrdec B' len p := by
  have hzero : B.read p = B'.read p := h 0 (by decide)
  rw [hdrdec_eq, hdrdec_eq, hzero, h 1 (by decide), h 2 (by decide)]

/-- The detector reads the two windows, which stand side by side. -/
theorem vbrdet_congr {p : Nat} (h : ∀ k, 36 ≤ k → k < 44 → B.read (p + k) = B'.read (p + k)) (len : Nat) :
    vbrdet B len p = vbrdet B' len p := by
  have hxing : ∀ k, k < 4 → B.read (p + Config.xingOffset + k) = B'.read (p + Config.xingOffset + k) := fun k hk => by
    rw [Nat.add_assoc]
    exact h (36 + k) (by omega) (by omega)
  have hvbri : ∀ k, k < 4 → B.read (p + Config.vbriOffset + k) = B'.read (p + Config.vbriOffset + k) := fun k hk => by
    rw [Nat.add_assoc]
    exact h (40 + k) (by omega) (by omega)
  unfold vbrdet xingMatch vbriMatch
  rw [memRead_congr hxing, memRead_congr hvbri]

end Sys2Proof.Machine
end

section
/-! SUPPORT. A memory in canonical form is determined by what it reads. -/

namespace Sys2Proof.Machine

/-- An offset that reads as something other than an unlisted one is not below the first offset. -/
theorem Memory.le_of_read_ne {lo a : Nat} {m : Memory} (hm : Memory.wfFrom lo m = true)
    (h : m.read a ≠ unlistedByte) : lo ≤ a :=
  Nat.le_of_not_lt fun ha => h (Memory.read_below hm ha)

theorem Memory.read_head (k : Nat) (v : Byte) (m : Memory) : Memory.read ((k, v) :: m) k = v := if_pos rfl

/-- Two canonical memories with the same reads have the same first cell: each first offset reads as a listed one in
the other memory too. -/
theorem Memory.head_eq_of_read_eq {lo lo' k k' : Nat} {v v' : Byte} {m m' : Memory}
    (hm : Memory.wfFrom lo ((k, v) :: m) = true) (hm' : Memory.wfFrom lo' ((k', v') :: m') = true)
    (h : ∀ a, Memory.read ((k, v) :: m) a = Memory.read ((k', v') :: m') a) : k = k' ∧ v = v' := by
  obtain ⟨-, hv, htail⟩ := (Memory.wfFrom_cons ..).1 hm
  obtain ⟨-, hv', htail'⟩ := (Memory.wfFrom_cons ..).1 hm'
  have hle : k ≤ k' := by
    refine Memory.le_of_read_ne ((Memory.wfFrom_cons ..).2 ⟨Nat.le_refl k, hv, htail⟩) ?_
    rwa [h, Memory.read_head]
  have hge : k' ≤ k := by
    refine Memory.le_of_read_ne ((Memory.wfFrom_cons ..).2 ⟨Nat.le_refl k', hv', htail'⟩) ?_
    rwa [← h, Memory.read_head]
  obtain rfl := Nat.le_antisymm hle hge
  exact ⟨rfl, by simpa only [Memory.read_head] using h k⟩

/-- Below the offset of a common first cell the tails list nothing, and above it they read as the whole does. -/
theorem Memory.tail_read_eq {k : Nat} {v : Byte} {m m' : Memory} (hm : Memory.wfFrom (k + 1) m = true)
    (hm' : Memory.wfFrom (k + 1) m' = true)
    (h : ∀ a, Memory.read ((k, v) :: m) a = Memory.read ((k, v) :: m') a) (a : Nat) : m.read a = m'.read a := by
  by_cases ha : a = k
  · rw [Memory.read_below hm (by omega), Memory.read_below hm' (by omega)]
  · have hread := h a
    rwa [Memory.read_cons, if_neg ha, Memory.read_cons, if_neg ha] at hread

/-- A canonical memory that reads everywhere as if unlisted lists nothing. -/
theorem Memory.eq_nil_of_read {lo : Nat} {m : Memory} (hm : Memory.wfFrom lo m = true)
    (h : ∀ a, m.read a = unlistedByte) : m = [] := by
  cases m with
  | nil => rfl
  | cons e m =>
    obtain ⟨k, v⟩ := e
    obtain ⟨-, hv, -⟩ := (Memory.wfFrom_cons ..).1 hm
    exact absurd ((Memory.read_head k v m).symm.trans (h k)) hv

theorem Memory.eq_of_read_eq {lo lo' : Nat} {m m' : Memory} (hm : Memory.wfFrom lo m = true)
    (hm' : Memory.wfFrom lo' m' = true) (h : ∀ a, m.read a = m'.read a) : m = m' := by
  induction m generalizing lo lo' m' with
  | nil => exact (Memory.eq_nil_of_read hm' fun a => (h a).symm).symm
  | cons e m ih =>
    cases m' with
    | nil => exact Memory.eq_nil_of_read hm h
    | cons e' m' =>
      obtain ⟨k, v⟩ := e
      obtain ⟨k', v'⟩ := e'
      obtain ⟨rfl, rfl⟩ := Memory.head_eq_of_read_eq hm hm' h
      obtain ⟨-, -, htail⟩ := (Memory.wfFrom_cons ..).1 hm
      obtain ⟨-, -, htail'⟩ := (Memory.wfFrom_cons ..).1 hm'
      rw [ih htail htail' (Memory.tail_read_eq htail htail' h)]

end Sys2Proof.Machine
end

section
/-! The statements of 20_memory.md. -/

namespace Sys2Proof.Proofs.ByteSequence

open Sys2Proof.Machine

/-- Settles O28: a WALK outcome and TAGSKIP write registers of the block other than LEN, and no other operation
writes anything. -/
theorem operationsWriteNoMemory : Obligations.OperationsWriteNoMemory := by
  intro i s t h
  rcases exec_next h with ⟨o, rfl⟩ | ⟨r, rfl⟩ | rfl <;> simp

/-- Settles O43: the listed bytes are those the Tag Skipper, the header decoder and the detector read. -/
theorem stepDependsOnTheListedBytes : Obligations.StepDependsOnTheListedBytes := by
  rintro s t m (⟨hp, hbytes⟩ | ⟨hp, hbytes⟩) hstep
  · have hsig : ∀ k < 3, 0 + k ∈ [0, 1, 2, 6, 7, 8, 9] := by decide
    have hsize : ∀ k < 4, 6 + k ∈ [0, 1, 2, 6, 7, 8, 9] := by decide
    have hskip : skipLeadingTag s.mem s.len = skipLeadingTag m s.len :=
      skipLeadingTag_congr (fun k hk => hbytes _ (hsig k hk)) (fun k hk => hbytes _ (hsize k hk)) _
    cases (blockStep_tag hp).symm.trans hstep
    rw [blockStep_tag (s := { s with mem := m }) hp, ← hskip]
    rfl
  · have hheader : ∀ k < 3, k ∈ [0, 1, 2, 36, 37, 38, 39, 40, 41, 42, 43] := by decide
    have hwindows : ∀ k < 44, 36 ≤ k → k ∈ [0, 1, 2, 36, 37, 38, 39, 40, 41, 42, 43] := by decide
    have hcandidate : s.candidate = ({ s with mem := m } : State).candidate :=
      hdrdec_congr (fun k hk => hbytes k (hheader k hk)) _
    have hmeta : s.isMeta = ({ s with mem := m } : State).isMeta :=
      vbrdet_congr (fun k hlow hhigh => hbytes k (hwindows k hhigh hlow)) _
    cases (blockStep_scan hp).symm.trans hstep
    rw [blockStep_scan (s := { s with mem := m }) hp, ← hcandidate, ← hmeta, State.applyOutcome_withMem]
    rfl

/-- Settles O54: the refusal is that of a byte that would change, and any other store has the laws of the memory. -/
theorem hostStoresBytes : Obligations.HostStoresBytes := by
  intro s a b rest hi hwf
  have hstep : step s = hostStore a b (s.popMove rest) := step_cons hi
  rw [hstep, ← Phase.busy_eq_true]
  rcases hostStore_cases a b (s.popMove rest) with ⟨hbusy, hbelow, hchange, hs⟩ | ⟨hkeep, hs⟩ <;> rw [hs]
  · exact ⟨fun _ => rfl, fun h => absurd ⟨hbusy, hbelow, hchange⟩ h⟩
  · refine ⟨fun ⟨hbusy, hbelow, hchange⟩ => ?_,
      fun _ => ⟨s.mem.write a b, rfl, Memory.wf_write hwf a b, fun c => Memory.read_write hwf a c b⟩⟩
    rcases hkeep with hfree | hbeyond | hsame
    · exact absurd (hbusy.symm.trans hfree) (by decide)
    · exact absurd hbelow (Nat.not_lt_of_le hbeyond)
    · exact absurd hsame hchange

/-- Settles O56: the canonical form starts at offset 0 in both. -/
theorem canonicalMemoriesAreEqual : Obligations.CanonicalMemoriesAreEqual :=
  fun _ _ => Memory.eq_of_read_eq

end Sys2Proof.Proofs.ByteSequence
end

section
/-! SUPPORT. A four-byte word taken apart: masks, equality and bit fields of `be32` byte by byte. -/

namespace Sys2Proof.Machine

theorem be32_and (b0 b1 b2 b3 m0 m1 m2 m3 : Byte) :
    be32 b0 b1 b2 b3 &&& be32 m0 m1 m2 m3 = be32 (b0 &&& m0) (b1 &&& m1) (b2 &&& m2) (b3 &&& m3) := by
  unfold be32
  rw [← BitVec.and_append, ← BitVec.and_append, ← BitVec.and_append]

theorem append_byte_inj {n : Nat} {x y : BitVec n} {a b : Byte} (h : x ++ a = y ++ b) : x = y ∧ a = b :=
  ⟨by simpa only [BitVec.extractLsb'_append_eq_left] using congrArg (·.extractLsb' 8 n) h,
    by simpa only [BitVec.extractLsb'_append_eq_right] using congrArg (·.extractLsb' 0 8) h⟩

/-- A word determines its bytes. -/
theorem be32_inj {a0 a1 a2 a3 b0 b1 b2 b3 : Byte} :
    be32 a0 a1 a2 a3 = be32 b0 b1 b2 b3 ↔ a0 = b0 ∧ a1 = b1 ∧ a2 = b2 ∧ a3 = b3 := by
  refine ⟨fun h => ?_, fun ⟨h0, h1, h2, h3⟩ => by rw [h0, h1, h2, h3]⟩
  obtain ⟨h012, h3⟩ := append_byte_inj h
  obtain ⟨h01, h2⟩ := append_byte_inj h012
  obtain ⟨h0, h1⟩ := append_byte_inj h01
  exact ⟨h0, h1, h2, h3⟩

/-- Bits 15:8 of a word are its third byte. -/
theorem getLsbD_be32 {b0 b1 b2 b3 : Byte} {i : Nat} (hi : i < 8) :
    (be32 b0 b1 b2 b3).getLsbD (8 + i) = b2.getLsbD i := by
  unfold be32
  rw [BitVec.getLsbD_append, if_neg (by omega), BitVec.getLsbD_append, if_pos (by omega), Nat.add_sub_cancel_left]

/-- A field inside bits 15:8 of a word is a field of its third byte. -/
theorem extractLsb'_be32 {b0 b1 b2 b3 : Byte} {i n : Nat} (h : i + n ≤ 8) :
    (be32 b0 b1 b2 b3).extractLsb' (8 + i) n = b2.extractLsb' i n := by
  ext k hk
  rw [BitVec.getElem_extractLsb', BitVec.getElem_extractLsb', Nat.add_assoc, getLsbD_be32 (by omega)]

end Sys2Proof.Machine
end

section
/-! SUPPORT. The fields of a header byte (30_encoding.md R98): their ranges, the bits they are, the bits they ignore. -/

namespace Sys2Proof.Machine

theorem hasSync_iff {b0 b1 : Byte} : hasSync b0 b1 = true ↔ b0 = 0xFF#8 ∧ b1 &&& 0xE0#8 = 0xE0#8 := by
  simp [hasSync]

theorem bitrateIndexOf_eq (b2 : Byte) : bitrateIndexOf b2 = (b2.extractLsb' 4 4).toNat := by revert b2; decide

theorem samplerateIndexOf_eq (b2 : Byte) : samplerateIndexOf b2 = (b2.extractLsb' 2 2).toNat := by revert b2; decide

theorem paddingOf_eq (b2 : Byte) : paddingOf b2 = b2.getLsbD 1 := by revert b2; decide

theorem bitrateIndexOf_lt (b2 : Byte) : bitrateIndexOf b2 < 16 := bitrateIndexOf_eq b2 ▸ BitVec.isLt _

theorem samplerateIndexOf_lt (b2 : Byte) : samplerateIndexOf b2 < 4 := samplerateIndexOf_eq b2 ▸ BitVec.isLt _

/-- The two index fields of the third byte, where they stand in it (R81). -/
theorem indexBits_eq (b2 : Byte) :
    b2 &&& 0xFC#8 = BitVec.ofNat 8 (bitrateIndexOf b2 * 16 + samplerateIndexOf b2 * 4) := by revert b2; decide

/-- Bit 0 of byte 1 and bit 0 of byte 2 are in no field (R88). -/
theorem hasSync_mask (b0 b1 : Byte) : hasSync b0 (b1 &&& 0xFE#8) = hasSync b0 b1 := by
  unfold hasSync
  rw [BitVec.and_assoc]
  rfl

theorem versionIdOf_mask (b1 : Byte) : versionIdOf (b1 &&& 0xFE#8) = versionIdOf b1 := by revert b1; decide

theorem layerOf_mask (b1 : Byte) : layerOf (b1 &&& 0xFE#8) = layerOf b1 := by revert b1; decide

theorem bitrateIndexOf_mask (b2 : Byte) : bitrateIndexOf (b2 &&& 0xFE#8) = bitrateIndexOf b2 := by revert b2; decide

theorem samplerateIndexOf_mask (b2 : Byte) : samplerateIndexOf (b2 &&& 0xFE#8) = samplerateIndexOf b2 := by
  revert b2; decide

theorem paddingOf_mask (b2 : Byte) : paddingOf (b2 &&& 0xFE#8) = paddingOf b2 := by revert b2; decide

theorem headerClass_mask (b0 b1 b2 : Byte) :
    headerClass b0 (b1 &&& 0xFE#8) (b2 &&& 0xFE#8) = headerClass b0 b1 b2 := by
  simp only [headerClass, hasSync_mask, versionIdOf_mask, layerOf_mask, bitrateIndexOf_mask, samplerateIndexOf_mask,
    paddingOf_mask]

theorem headerSize_mask (b0 b1 b2 : Byte) :
    headerSize b0 (b1 &&& 0xFE#8) (b2 &&& 0xFE#8) = headerSize b0 b1 b2 := by
  simp only [headerSize, sizeOfIndices, hasSync_mask, versionIdOf_mask, layerOf_mask,
    bitrateIndexOf_mask, samplerateIndexOf_mask, paddingOf_mask]

/-- Any four bytes decode, to the class of the first three. -/
theorem decode_mpahdr (b0 b1 b2 b3 : Byte) : decode .mpahdr [b0, b1, b2, b3] = .ok (headerClass b0 b1 b2) := rfl

/-- The code of a phase decodes to the row it selects (R96). -/
theorem decode_phaseCode (p : Phase) : decode .phase [p.code.setWidth 8] = .ok (phaseClass p.code) := by
  cases p <;> rfl

end Sys2Proof.Machine
end

section
/-! SUPPORT. When a header candidate is valid (30_encoding.md R84 to R86), by its fields and by its word. -/

namespace Sys2Proof.Machine

/-- The checks of R84: frame sync, the supported version and the supported layer. -/
def HeaderSupported (b0 b1 : Byte) : Prop :=
  hasSync b0 b1 = true ∧ versionIdOf b1 = Config.supportedVersion ∧ layerOf b1 = Config.supportedLayer

/-- Neither index of the third byte is reserved (R85). -/
def IndicesValid (b2 : Byte) : Prop :=
  bitrateIndexOf b2 ≠ 0 ∧ bitrateIndexOf b2 ≠ 15 ∧ samplerateIndexOf b2 ≠ 3

/-- Sync, version and layer fill bits 7:1 of byte 1. -/
theorem supportedBits_iff (b1 : Byte) :
    (b1 &&& 0xE0#8 = 0xE0#8 ∧ versionIdOf b1 = 3 ∧ layerOf b1 = 1) ↔ b1 &&& 0xFE#8 = 0xFA#8 := by
  revert b1; decide

theorem headerSupported_iff {b0 b1 : Byte} : HeaderSupported b0 b1 ↔ b0 = 0xFF#8 ∧ b1 &&& 0xFE#8 = 0xFA#8 := by
  unfold HeaderSupported Config.supportedVersion Config.supportedLayer
  rw [hasSync_iff, and_assoc, supportedBits_iff]

/-- The checks as one mask and match of the word. -/
theorem supportedWord_iff {b0 b1 b2 b3 : Byte} :
    be32 b0 b1 b2 b3 &&& 0xFFFE0000#32 = 0xFFFA0000#32 ↔ b0 = 0xFF#8 ∧ b1 &&& 0xFE#8 = 0xFA#8 := by
  have hmask : 0xFFFE0000#32 = be32 0xFF#8 0xFE#8 0x00#8 0x00#8 := rfl
  have hmatch : 0xFFFA0000#32 = be32 0xFF#8 0xFA#8 0x00#8 0x00#8 := rfl
  have hall : b0 &&& 0xFF#8 = b0 := BitVec.and_allOnes
  rw [hmask, hmatch, be32_and, be32_inj, hall]
  simp

/-- The indices as bits of the word. -/
theorem indicesValid_iff {b0 b1 b2 b3 : Byte} :
    IndicesValid b2 ↔ (be32 b0 b1 b2 b3).extractLsb' 12 4 ≠ 0#4 ∧ (be32 b0 b1 b2 b3).extractLsb' 12 4 ≠ 15#4 ∧
      (be32 b0 b1 b2 b3).extractLsb' 10 2 ≠ 3#2 := by
  have hbitrate : (be32 b0 b1 b2 b3).extractLsb' 12 4 = b2.extractLsb' 4 4 := extractLsb'_be32 (i := 4) (by decide)
  have hrate : (be32 b0 b1 b2 b3).extractLsb' 10 2 = b2.extractLsb' 2 2 := extractLsb'_be32 (i := 2) (by decide)
  rw [hbitrate, hrate, IndicesValid, bitrateIndexOf_eq, samplerateIndexOf_eq]
  simp only [ne_eq, ← BitVec.toNat_inj, BitVec.toNat_ofNat, Nat.reducePow, Nat.reduceMod]

end Sys2Proof.Machine
end

section
/-! SUPPORT. The class of a header candidate: a row of the table of 41_header_decoder.md R151 when it is valid, a row
of 30_encoding.md R87 when it is not. -/

namespace Sys2Proof.Machine

/-- Every pair of unreserved indices has its row in the table. -/
theorem exists_row : ∀ bi < 16, ∀ si < 4, bi ≠ 0 ∧ bi ≠ 15 ∧ si ≠ 3 →
    ∃ row ∈ sizeTable, bi = row.bitrateIndex ∧ si = row.samplerateIndex := by decide

/-- The decoder's class at a row's indices is that row. -/
theorem validClass_row : ∀ row ∈ sizeTable, ∀ pad,
    validClass row.bitrateIndex row.samplerateIndex pad = some (row.instr pad) := by decide

/-- A reserved index has no class. -/
theorem validClass_eq_none : ∀ bi < 16, ∀ si < 4, (bi = 0 ∨ bi = 15 ∨ si = 3) →
    ∀ pad, validClass bi si pad = none := by decide

theorem sizeTable_indices : ∀ row ∈ sizeTable, row.bitrateIndex < 16 ∧ row.samplerateIndex < 4 := by decide

/-- A row's word holds its two indices and the padding bit (R86). -/
theorem encodeWord_row : ∀ row ∈ sizeTable, ∀ pad, encodeWord (row.instr pad) =
    0xFFFA0000 + row.bitrateIndex * 2 ^ 12 + row.samplerateIndex * 2 ^ 10 + pad.toNat * 2 ^ 9 := by decide

/-- A row and its padding bit can be told from the instruction, since they can be told from its word. -/
theorem row_inj {row row' : SizeRow} (h : row ∈ sizeTable) (h' : row' ∈ sizeTable) {pad pad' : Bool}
    (heq : row.instr pad = row'.instr pad') :
    row.bitrateIndex = row'.bitrateIndex ∧ row.samplerateIndex = row'.samplerateIndex ∧ pad = pad' := by
  have hword := congrArg encodeWord heq
  rw [encodeWord_row row h, encodeWord_row row' h'] at hword
  obtain ⟨hbi, hsi⟩ := sizeTable_indices row h
  obtain ⟨hbi', hsi'⟩ := sizeTable_indices row' h'
  have hpad := Bool.toNat_le pad
  have hpad' := Bool.toNat_le pad'
  have htoNat : pad.toNat = pad'.toNat := by omega
  exact ⟨by omega, by omega, by simpa only [Bool.ofNat_toNat] using congrArg Bool.ofNat htoNat⟩

theorem row_notMem_invalidRows : ∀ row ∈ sizeTable, ∀ pad, row.instr pad ∉ invalidRows := by decide

theorem versionClass_mem (v : Nat) : versionClass v ∈ invalidRows := by
  unfold versionClass
  split_ifs <;> decide

theorem layerClass_mem (l : Nat) : layerClass l ∈ invalidRows := by
  unfold layerClass
  split_ifs <;> decide

theorem indexClass_mem (bi si : Nat) : indexClass bi si ∈ invalidRows := by
  unfold indexClass
  split_ifs <;> decide

theorem headerClass_of_supported {b0 b1 : Byte} (h : HeaderSupported b0 b1) (b2 : Byte) :
    headerClass b0 b1 b2 = (validClass (bitrateIndexOf b2) (samplerateIndexOf b2) (paddingOf b2)).getD
      (indexClass (bitrateIndexOf b2) (samplerateIndexOf b2)) := by
  obtain ⟨hsync, hversion, hlayer⟩ := h
  rw [headerClass, if_pos hsync, if_pos hversion, if_pos hlayer]

/-- With the checks passed, the class is the row of the two indices. -/
theorem headerClass_of_row {row : SizeRow} (hrow : row ∈ sizeTable) {b0 b1 b2 : Byte} (h : HeaderSupported b0 b1)
    (hbi : bitrateIndexOf b2 = row.bitrateIndex) (hsi : samplerateIndexOf b2 = row.samplerateIndex) :
    headerClass b0 b1 b2 = row.instr (paddingOf b2) := by
  rw [headerClass_of_supported h, hbi, hsi, validClass_row row hrow, Option.getD_some]

theorem headerClass_of_valid {b0 b1 b2 : Byte} (h : HeaderSupported b0 b1) (hidx : IndicesValid b2) :
    ∃ row ∈ sizeTable, bitrateIndexOf b2 = row.bitrateIndex ∧ samplerateIndexOf b2 = row.samplerateIndex ∧
      headerClass b0 b1 b2 = row.instr (paddingOf b2) := by
  obtain ⟨row, hrow, hbi, hsi⟩ := exists_row _ (bitrateIndexOf_lt b2) _ (samplerateIndexOf_lt b2) hidx
  exact ⟨row, hrow, hbi, hsi, headerClass_of_row hrow h hbi hsi⟩

theorem headerClass_of_not_valid {b0 b1 b2 : Byte} (h : ¬ (HeaderSupported b0 b1 ∧ IndicesValid b2)) :
    headerClass b0 b1 b2 ∈ invalidRows := by
  by_cases hs : HeaderSupported b0 b1
  · have hrsvd : bitrateIndexOf b2 = 0 ∨ bitrateIndexOf b2 = 15 ∨ samplerateIndexOf b2 = 3 := by
      by_contra hno
      exact h ⟨hs, by unfold IndicesValid; omega⟩
    rw [headerClass_of_supported hs,
      validClass_eq_none _ (bitrateIndexOf_lt b2) _ (samplerateIndexOf_lt b2) hrsvd]
    exact indexClass_mem _ _
  · unfold headerClass
    split_ifs with hsync hversion hlayer
    · exact absurd ⟨hsync, hversion, hlayer⟩ hs
    · exact layerClass_mem _
    · exact versionClass_mem _
    · decide

/-- The decoder gives a table row exactly at the row's own indices. -/
theorem headerClass_eq_row_iff {row : SizeRow} (hrow : row ∈ sizeTable) {pad : Bool} {b0 b1 b2 : Byte} :
    headerClass b0 b1 b2 = row.instr pad ↔
      HeaderSupported b0 b1 ∧ bitrateIndexOf b2 = row.bitrateIndex ∧ samplerateIndexOf b2 = row.samplerateIndex ∧
        paddingOf b2 = pad := by
  refine ⟨fun heq => ?_, fun ⟨hs, hbi, hsi, hpad⟩ => hpad ▸ headerClass_of_row hrow hs hbi hsi⟩
  by_cases hvalid : HeaderSupported b0 b1 ∧ IndicesValid b2
  · obtain ⟨hs, hidx⟩ := hvalid
    obtain ⟨row', hrow', hbi, hsi, hclass⟩ := headerClass_of_valid hs hidx
    rw [hbi, hsi]
    exact ⟨hs, row_inj hrow' hrow (hclass.symm.trans heq)⟩
  · exact absurd (heq ▸ headerClass_of_not_valid hvalid) (row_notMem_invalidRows row hrow pad)

/-- The match word of a pair of indices, byte by byte. -/
theorem matchWord_eq : ∀ bi < 16, ∀ si < 4, BitVec.ofNat 32 (0xFFFA0000 + bi * 2 ^ 12 + si * 2 ^ 10) =
    be32 0xFF#8 0xFA#8 (BitVec.ofNat 8 (bi * 16 + si * 4)) 0x00#8 := by decide

/-- The mask of a row keeps sync, version, layer and the two indices. -/
theorem rowWord_iff {bi si : Nat} (hbi : bi < 16) (hsi : si < 4) {b0 b1 b2 b3 : Byte} :
    be32 b0 b1 b2 b3 &&& 0xFFFEFC00#32 = BitVec.ofNat 32 (0xFFFA0000 + bi * 2 ^ 12 + si * 2 ^ 10) ↔
      HeaderSupported b0 b1 ∧ bitrateIndexOf b2 = bi ∧ samplerateIndexOf b2 = si := by
  have hmask : 0xFFFEFC00#32 = be32 0xFF#8 0xFE#8 0xFC#8 0x00#8 := rfl
  have hall : b0 &&& 0xFF#8 = b0 := BitVec.and_allOnes
  have hindices : b2 &&& 0xFC#8 = BitVec.ofNat 8 (bi * 16 + si * 4) ↔
      bitrateIndexOf b2 = bi ∧ samplerateIndexOf b2 = si := by
    have hbi' := bitrateIndexOf_lt b2
    have hsi' := samplerateIndexOf_lt b2
    rw [indexBits_eq, ← BitVec.toNat_inj, BitVec.toNat_ofNat, BitVec.toNat_ofNat]
    omega
  rw [hmask, matchWord_eq bi hbi si hsi, be32_and, be32_inj, hall, hindices, headerSupported_iff]
  simp [and_assoc]

end Sys2Proof.Machine
end

section
/-! SUPPORT. The tag size in its two forms; an INVALID row as an instruction. -/

namespace Sys2Proof.Machine

/-- The digits' places do not overlap, so adding them is joining them (30_encoding.md R91). -/
theorem tagSize_eq_or {b c d : Nat} (hb : b < 128) (hc : c < 128) (hd : d < 128) (a : Nat) :
    tagSize a b c d = a <<< 21 ||| b <<< 14 ||| c <<< 7 ||| d := by
  have hlow : c <<< 7 + d = c <<< 7 ||| d := Nat.shiftLeft_add_eq_or_of_lt (by omega) c
  have hmid : b <<< 14 + (c <<< 7 + d) = b <<< 14 ||| (c <<< 7 + d) :=
    Nat.shiftLeft_add_eq_or_of_lt (by rw [Nat.shiftLeft_eq]; omega) b
  have htop : a <<< 21 + (b <<< 14 + (c <<< 7 + d)) = a <<< 21 ||| (b <<< 14 + (c <<< 7 + d)) :=
    Nat.shiftLeft_add_eq_or_of_lt (by simp only [Nat.shiftLeft_eq]; omega) a
  rw [Nat.or_assoc, Nat.or_assoc, ← hlow, ← hmid, ← htop]
  simp only [Nat.shiftLeft_eq, tagSize, Nat.add_assoc]

/-- All causes of `invalid` have one meaning (R87). -/
theorem exec_of_mem_invalidRows : ∀ i ∈ invalidRows, exec i = walkInvalidHeader := by
  simp only [invalidRows, List.forall_mem_cons, List.not_mem_nil, false_imp_iff, implies_true, and_true]
  exact ⟨rfl, rfl, rfl, rfl, rfl, rfl, rfl, rfl, rfl, rfl⟩

theorem walkInvalidHeader_of_room {s : State} (hp : s.phase = .scan) (hroom : s.cursor + 4 < s.len) :
    walkInvalidHeader s = .next s.resync := by
  have hout : s.outcome none false = .resync := if_pos ((State.inRange_iff s).2 hroom)
  rw [walkInvalidHeader, walkOn, hout]
  exact whenEnabled_of hp _

end Sys2Proof.Machine
end

section
/-! The statements of 30_encoding.md. -/

namespace Sys2Proof.Proofs.Encoding

open Sys2Proof.Machine

/-- Settles O3: sync, version and layer are the bits the mask of R84 keeps, and only bit 0 of byte 1 is free. -/
theorem syncVersionLayerIsOneCompare : Obligations.SyncVersionLayerIsOneCompare := by
  intro b0 b1 b2 b3
  have hfree : b1 &&& 0xFE#8 = 0xFA#8 ↔ b1 = 0xFA#8 ∨ b1 = 0xFB#8 := by revert b1; decide
  exact ⟨headerSupported_iff, and_congr_right' hfree, supportedWord_iff.symm⟩

/-- Settles O4: both sides say that the checks pass and the fields are the row's. -/
theorem validRowsMatchTheirMask : Obligations.ValidRowsMatchTheirMask := by
  intro row hrow pad b0 b1 b2 b3
  obtain ⟨hbi, hsi⟩ := sizeTable_indices row hrow
  have hpadding : (be32 b0 b1 b2 b3).getLsbD 9 = b2.getLsbD 1 := getLsbD_be32 (i := 1) (by decide)
  rw [decode_mpahdr, Except.ok.injEq, headerClass_eq_row_iff hrow, rowWord_iff hbi hsi,
    hpadding, ← paddingOf_eq, and_assoc, and_assoc]

/-- Settles O5: the condition of R86 is that the checks pass and no index is reserved. -/
theorem everyHeaderWordIsClassified : Obligations.EveryHeaderWordIsClassified := by
  intro b0 b1 b2 b3
  refine ⟨headerClass b0 b1 b2, decode_mpahdr b0 b1 b2 b3, ?_⟩
  split_ifs with hword <;> rw [supportedWord_iff, ← headerSupported_iff, ← indicesValid_iff] at hword
  · obtain ⟨hs, hidx⟩ := hword
    obtain ⟨row, hrow, -, -, hclass⟩ := headerClass_of_valid hs hidx
    exact ⟨row, hrow, paddingOf b2, hclass⟩
  · exact headerClass_of_not_valid hword

/-- Settles O6: no field has an ignored bit in it, and the detector's windows are the bytes p + 36 to p + 43. -/
theorem ignoredBitsDoNotMatter : Obligations.IgnoredBitsDoNotMatter := by
  refine ⟨fun b0 b1 b2 b3 c1 c2 c3 h1 h2 => ?_, fun B B' len p hbytes => ?_⟩
  · rw [decode_mpahdr, decode_mpahdr, ← headerClass_mask, ← headerSize_mask, h1, h2, headerClass_mask,
      headerSize_mask]
    exact ⟨rfl, rfl⟩
  · exact vbrdet_congr (fun k hlow hhigh => hbytes (p + k) (by omega) (by omega)) len

/-- Settles O11: each digit is below 128, bit 7 of its byte being masked off. -/
theorem tagSizeIsTheOrForm : Obligations.TagSizeIsTheOrForm := by
  intro b6 b7 b8 b9
  have hbit7 : digitOf (some (b6 ||| 0x80#8)) = digitOf (some (b6 &&& 0x7F#8)) := by revert b6; decide
  have hlt := tagSize_lt (digitOf_lt (some b6)) (digitOf_lt (some b7)) (digitOf_lt (some b8)) (digitOf_lt (some b9))
  exact ⟨tagSize_eq_or (digitOf_lt _) (digitOf_lt _) (digitOf_lt _) _, Nat.le_of_lt_succ hlt, rfl, hbit7⟩

/-- Settles O15: with headroom the one meaning of the INVALID rows is RESYNC. -/
theorem invalidHeaderResyncs : Obligations.InvalidHeaderResyncs := by
  intro i hi s hp hroom
  rw [exec_of_mem_invalidRows i hi]
  exact walkInvalidHeader_of_room hp hroom

/-- Settles O29: the PHASE code decodes to the operation that the block's own step runs. -/
theorem stepRunsThePhaseOperation : Obligations.StepRunsThePhaseOperation := by
  intro s i hdecode
  obtain rfl : s.phaseOp = i := Except.ok.inj ((decode_phaseCode s.phase).symm.trans hdecode)
  exact ⟨fun hi => step_nil hi, fun rest hi => step_cons hi⟩

end Sys2Proof.Proofs.Encoding
end

section
/-! SUPPORT. The leading tag: its digits, the Tag Skipper's result with a tag and without one, and the `ID3HDR` row
that the tag's bytes decode to. -/

namespace Sys2Proof.Machine

theorem readBytes_getElem? (B : Memory) (a n k : Nat) :
    (readBytes B a n)[k]? = if k < n then some (B.read (a + k)) else none := by
  induction n generalizing a k with
  | zero => rfl
  | succ n ih =>
    cases k with
    | zero => rfl
    | succ k =>
      simp only [readBytes, List.getElem?_cons_succ, ih, Nat.add_lt_add_iff_right, Nat.add_right_comm a 1 k,
        Nat.add_assoc]

/-- A size digit is the low seven bits of its byte, and 0 beyond the length (40_tag_skipper.md R123, R124). -/
theorem sizeDigit_eq (B : Memory) (len k : Nat) :
    sizeDigit B len k = if 6 + k < len then (B.read (6 + k)).toNat % 128 else 0 := by
  have hmask : ∀ b : Byte, (b &&& 0x7F#8).toNat = b.toNat % 128 := by decide
  unfold sizeDigit byteAt Config.tagSizeFieldOffset
  split
  · exact hmask _
  · rfl

theorem skipLeadingTag_of_tag {B : Memory} {len : Nat} (h : memRead B len 0 3 = some asciiId3) :
    skipLeadingTag B len =
      tagOffset (sizeDigit B len 0) (sizeDigit B len 1) (sizeDigit B len 2) (sizeDigit B len 3) :=
  if_pos h

theorem skipLeadingTag_of_no_tag {B : Memory} {len : Nat} (h : memRead B len 0 3 ≠ some asciiId3) :
    skipLeadingTag B len = 0 :=
  if_neg h

/-- The first bytes of the tag header are the signature exactly when the Tag Skipper finds one; a buffer of fewer than
three bytes has none (R121). -/
theorem State.take_tagBytes_iff (s : State) :
    s.tagBytes.take 3 = asciiId3 ↔ memRead s.mem s.len 0 3 = some asciiId3 := by
  by_cases hlen : 3 ≤ s.len
  · have htake : s.tagBytes.take 3 = readBytes s.mem 0 3 := by
      obtain ⟨n, hn⟩ := Nat.exists_eq_add_of_le' (Nat.le_min.2 ⟨hlen, show 3 ≤ Config.tagHeaderSize by decide⟩)
      rw [State.tagBytes, hn]
      rfl
    rw [htake, memRead_eq_some]
    exact (and_iff_right hlen).symm
  · have hshort : s.tagBytes.length < 3 := by
      rw [State.tagBytes, readBytes_length]
      omega
    refine iff_of_false (fun h => ?_) (fun h => hlen (memRead_eq_some.1 h).1)
    have hthree : 3 = min 3 s.tagBytes.length := (congrArg List.length h).symm.trans List.length_take
    omega

/-- The tag header's bytes are the Byte Sequence's, absent where it ends (R124). -/
theorem State.tagBytes_getElem? (s : State) {k : Nat} (hk : k < 10) : s.tagBytes[k]? = byteAt s.mem s.len k := by
  have hbound : k < min s.len Config.tagHeaderSize ↔ k < s.len := Nat.lt_min.trans (and_iff_left hk)
  simp only [State.tagBytes, readBytes_getElem?, byteAt, hbound, Nat.zero_add]

/-- The row that the tag header's bytes decode to is the TAGSKIP step at that tag (30_encoding.md R99). -/
theorem exec_tagClass_tagBytes (s : State) : exec (tagClass s.tagBytes) s = exec .tagskip s := by
  change _ = tagStep (skipLeadingTag s.mem s.len) s
  unfold tagClass
  split_ifs with htag <;> rw [State.take_tagBytes_iff] at htag
  · rw [skipLeadingTag_of_tag htag]
    simp only [State.tagBytes_getElem? s, Nat.reduceLT]
    rfl
  · rw [skipLeadingTag_of_no_tag htag]
    rfl

end Sys2Proof.Machine
end

section
/-! SUPPORT. The bytes of a loaded stream, read at an offset where the rest of the stream is known, and the items of
30_encoding.md R101 as they are read there. -/

namespace Sys2Proof.Machine

/-- Where the rest of the stream from `p` on is `item`, the byte at `p + k` is the item's `k`-th. -/
theorem read_loadStream_of_drop {bs item : List Byte} {p : Nat} (h : bs.drop p = item) (k : Nat) :
    (loadStream bs).read (p + k) = item.getD k unlistedByte := by
  rw [read_loadStream, ← h, List.getD_eq_getElem?_getD, List.getD_eq_getElem?_getD, List.getElem?_drop]

/-- The rates of a valid class are within the ROMs' extremes (10_state.md R29, R30). -/
theorem RateOk.bounds {kbps hz : Nat} (h : RateOk kbps hz) :
    (32 ≤ kbps ∧ kbps ≤ 320) ∧ (32000 ≤ hz ∧ hz ≤ 48000) := by
  obtain ⟨hk, hh⟩ := h
  simp only [bitrateRows, samplerateRows, List.map_cons, List.map_nil, List.mem_cons, List.not_mem_nil, or_false]
    at hk hh
  omega

/-- A valid class has a frame of at least 96 bytes (00_scope.md R10). -/
theorem RateOk.le_frameSize {kbps hz : Nat} (h : RateOk kbps hz) (pad : Bool) : 96 ≤ frameSize kbps hz pad :=
  (frameSize_bounds h.bounds.1 h.bounds.2 pad).1

/-- `FRAME` is as long as its header says. -/
theorem length_frameBytes {kbps hz : Nat} (h : RateOk kbps hz) (pad : Bool) :
    (frameBytes kbps hz pad).length = frameSize kbps hz pad :=
  frameBytes_length (Nat.le_trans (by decide) (h.le_frameSize pad))

/-- The third byte of `HDR` holds the ROM indices of its rates, which look those rates up again. -/
theorem headerSize_hdrBytes {kbps hz : Nat} (h : RateOk kbps hz) (pad : Bool) :
    headerSize 0xFF#8 0xFB#8 (BitVec.ofNat 8
      (romIndex Config.bitrateRom kbps * 16 + romIndex Config.samplerateRom hz * 4 + pad.toNat * 2)) =
      some (frameSize kbps hz pad) := by
  obtain ⟨hk, hh⟩ := h
  revert pad
  revert hz
  revert kbps
  decide

/-- The header decoder at a `HDR`, whatever follows it. -/
theorem hdrdec_of_hdrBytes {bs rest : List Byte} {p kbps hz : Nat} {pad : Bool} (h : RateOk kbps hz)
    (hdrop : bs.drop p = hdrBytes kbps hz pad ++ rest) :
    hdrdec (loadStream bs) bs.length p = some (frameSize kbps hz pad) := by
  have hlen : bs.length - p = rest.length + 4 := by
    rw [← List.length_drop, hdrop]
    rfl
  rw [hdrdec_eq_some]
  refine ⟨by omega, ?_⟩
  rw [← Nat.add_zero p, read_loadStream_of_drop hdrop 0, read_loadStream_of_drop hdrop 1,
    read_loadStream_of_drop hdrop 2]
  exact headerSize_hdrBytes h pad

/-- No signature begins with a zero byte. -/
theorem vbrdet_of_zero {B : Memory} {p : Nat} (hxing : B.read (p + 36) = 0#8) (hvbri : B.read (p + 40) = 0#8)
    (len : Nat) : vbrdet B len p = false := by
  rw [Bool.eq_false_iff, Ne, vbrdet_iff, xingMatch_iff, vbriMatch_iff, readBytes_four, readBytes_four, hxing, hvbri]
  simp [asciiXing, asciiInfo, asciiVbri]

/-- The detector at a `FRAME` meets its filling in both windows. -/
theorem vbrdet_of_frameBytes {bs rest : List Byte} {p kbps hz : Nat} {pad : Bool} (h : RateOk kbps hz)
    (hdrop : bs.drop p = frameBytes kbps hz pad ++ rest) : vbrdet (loadStream bs) bs.length p = false := by
  have hsize := h.le_frameSize pad
  have hzero : ∀ k, 4 ≤ k → k < 96 → (loadStream bs).read (p + k) = 0#8 := fun k hlow hhigh => by
    have hlen := length_frameBytes h pad
    rw [read_loadStream_of_drop hdrop, List.getD_append _ _ _ _ (by omega), frameBytes,
      List.getD_append_right _ _ _ _ hlow, zeroBytes, List.getD_replicate _ (by simp [hdrBytes]; omega)]
  exact vbrdet_of_zero (hzero 36 (by decide) (by decide)) (hzero 40 (by decide) (by decide)) _

theorem sizeByte_toNat (size k : Nat) : (sizeByte size k).toNat % 128 = size / 2 ^ (7 * k) % 128 := by
  rw [sizeByte, BitVec.toNat_ofNat]
  omega

theorem ten_le_length_tagBytes_append (size : Nat) (rest : List Byte) : 10 ≤ (tagBytes size ++ rest).length := by
  rw [List.length_append, tagBytes_length]
  omega

theorem tagPresent_tagBytes (size : Nat) (rest : List Byte) :
    memRead (loadStream (tagBytes size ++ rest)) (tagBytes size ++ rest).length 0 3 = some asciiId3 := by
  have hlen := ten_le_length_tagBytes_append size rest
  rw [tagPresent_iff, read_loadStream, read_loadStream, read_loadStream]
  exact ⟨by omega, rfl, rfl, rfl⟩

/-- The digits of `TAG(S)` stand most significant first. -/
theorem sizeDigit_tagBytes (size : Nat) (rest : List Byte) {k : Nat} (hk : k < 4) :
    sizeDigit (loadStream (tagBytes size ++ rest)) (tagBytes size ++ rest).length k =
      size / 2 ^ (7 * (3 - k)) % 128 := by
  have hlen := ten_le_length_tagBytes_append size rest
  have hbyte : (tagBytes size ++ rest).getD (6 + k) unlistedByte = sizeByte size (3 - k) := by
    interval_cases k <;> rfl
  rw [sizeDigit_eq, if_pos (by omega), read_loadStream, hbyte, sizeByte_toNat]

/-- The digits of `ID3(S)` make up `S` again (30_encoding.md R91), so the Tag Skipper passes the whole `TAG(S)`. -/
theorem skipLeadingTag_tagBytes {size : Nat} (h : size < 2 ^ 28) (rest : List Byte) :
    skipLeadingTag (loadStream (tagBytes size ++ rest)) (tagBytes size ++ rest).length = (tagBytes size).length := by
  rw [skipLeadingTag_of_tag (tagPresent_tagBytes size rest), sizeDigit_tagBytes size rest (by decide),
    sizeDigit_tagBytes size rest (by decide), sizeDigit_tagBytes size rest (by decide),
    sizeDigit_tagBytes size rest (by decide), tagBytes_length, tagOffset, tagSize, Config.tagHeaderSize]
  omega

theorem skipLeadingTag_of_read_zero_ne {B : Memory} (h : B.read 0 ≠ 0x49#8) (len : Nat) : skipLeadingTag B len = 0 :=
  skipLeadingTag_of_no_tag fun htag => h ((tagPresent_iff B len).1 htag).2.1

end Sys2Proof.Machine
end

section
/-! SUPPORT. The loop of 43_frame_walker.md R197 over a sequence of frames. -/

namespace Sys2Proof.Machine

/-- The stream of a list of frames, each given by its bitrate, its sample rate and its padding. -/
def framesBytes (frames : List (Nat × Nat × Bool)) : List Byte :=
  (frames.map fun f => frameBytes f.1 f.2.1 f.2.2).flatten

theorem framesBytes_cons (f : Nat × Nat × Bool) (frames : List (Nat × Nat × Bool)) :
    framesBytes (f :: frames) = frameBytes f.1 f.2.1 f.2.2 ++ framesBytes frames := rfl

theorem length_le_length_framesBytes (frames : List (Nat × Nat × Bool)) :
    frames.length ≤ (framesBytes frames).length := by
  induction frames with
  | nil => exact Nat.le_refl 0
  | cons f frames ih =>
    rw [framesBytes_cons, List.length_append, List.length_cons]
    have hpos : 0 < (frameBytes f.1 f.2.1 f.2.2).length := Nat.succ_pos _
    omega

/-- Where the rest of a stream is a list of frames, the loop counts them all and stops. -/
theorem countLoop_framesBytes {bs : List Byte} {frames : List (Nat × Nat × Bool)}
    (hrates : ∀ f ∈ frames, RateOk f.1 f.2.1) {p fuel : Nat} (hdrop : bs.drop p = framesBytes frames)
    (hfuel : frames.length ≤ fuel) (count : Nat) (seen : Bool) :
    countLoop (loadStream bs) bs.length fuel p count seen = count + frames.length := by
  induction frames generalizing p fuel count seen with
  | nil =>
    have hend : bs.length ≤ p := List.drop_eq_nil_iff.1 hdrop
    exact countLoop_exit (by omega)
  | cons f frames ih =>
    obtain ⟨hrate, hrates⟩ := List.forall_mem_cons.1 hrates
    obtain ⟨fuel, rfl⟩ := Nat.exists_eq_add_of_le' hfuel
    rw [framesBytes_cons] at hdrop
    have hhdr := hdrdec_of_hdrBytes hrate (hdrop.trans (List.append_assoc ..))
    have hsize := (hdrdec_bounds hhdr).1
    have hlen := length_frameBytes hrate f.2.2
    have hroom : p + 4 < bs.length := by
      have hrest := congrArg List.length hdrop
      rw [List.length_drop, List.length_append] at hrest
      omega
    have hnext : bs.drop (p + frameSize f.1 f.2.1 f.2.2) = framesBytes frames := by
      rw [← List.drop_drop, hdrop, ← hlen, List.drop_left]
    rw [List.length_cons, ← Nat.add_assoc,
      countLoop_accept hroom hhdr (.inr (vbrdet_of_frameBytes hrate hdrop)),
      ih hrates hnext (Nat.le_add_left ..)]
    omega

/-- Frames are counted from the Tag Skipper's result on. -/
theorem countBytes_framesBytes {front : List Byte} {frames : List (Nat × Nat × Bool)}
    (hrates : ∀ f ∈ frames, RateOk f.1 f.2.1)
    (hskip : skipLeadingTag (loadStream (front ++ framesBytes frames)) (front ++ framesBytes frames).length =
      front.length) :
    countBytes (front ++ framesBytes frames) = frames.length := by
  have hfuel := length_le_length_framesBytes frames
  rw [countBytes, countFrames, hskip, countLoop_framesBytes hrates List.drop_left, Nat.zero_add]
  rw [List.length_append]
  omega

end Sys2Proof.Machine
end

section
/-! The statements of 40_tag_skipper.md. -/

namespace Sys2Proof.Proofs.TagSkipper

open Sys2Proof.Machine

/-- Settles O10: the size digits by quotient and remainder, in the sum that the tag offset is. -/
theorem tagSkipperResult : Obligations.TagSkipperResult := by
  intro B len
  rw [← tagPresent_iff]
  refine ⟨skipLeadingTag_of_no_tag, fun htag => ?_⟩
  have hresult := skipLeadingTag_of_tag htag
  refine ⟨?_, hresult ▸ Nat.le_add_right 10 _, skipLeadingTag_le B len⟩
  simp only [hresult, tagOffset, tagSize, sizeDigit_eq, Config.tagHeaderSize, ← Nat.add_assoc, Nat.reduceAdd]

/-- Settles O31: the block's own step in TAG is TAGSKIP, and the decoded row is that step. -/
theorem stepRunsTheDecodedTag : Obligations.StepRunsTheDecodedTag := by
  intro s i hi hp hdecode
  obtain rfl : tagClass s.tagBytes = i := Except.ok.inj hdecode
  rw [step_nil hi, blockStep_tag hp, exec_tagClass_tagBytes]
  exact (whenEnabled_of hp _).symm

/-- Settles O50: with the tag and without it the Tag Skipper's result is where the two frames begin. -/
theorem tagIsSkipped : Obligations.TagIsSkipped := by
  intro size hsize
  have hrates : ∀ f ∈ [(128, 44100, false), (128, 44100, false)], RateOk f.1 f.2.1 := by decide
  have hframes : framesBytes [(128, 44100, false), (128, 44100, false)] =
      frameBytes 128 44100 false ++ frameBytes 128 44100 false := by
    rw [framesBytes_cons, framesBytes_cons]
    exact congrArg _ (List.append_nil _)
  rw [List.append_assoc, ← hframes]
  have hfirst : (loadStream (framesBytes [(128, 44100, false), (128, 44100, false)])).read 0 ≠ 0x49#8 := by
    rw [read_loadStream, framesBytes_cons]
    exact show 0xFF#8 ≠ 0x49#8 by decide
  have htagged := countBytes_framesBytes hrates (skipLeadingTag_tagBytes hsize _)
  have hplain := countBytes_framesBytes (front := []) hrates (skipLeadingTag_of_read_zero_ne hfirst _)
  exact ⟨htagged, hplain⟩

/-- Settles O17: in TAG both rows are the TAGSKIP step, at their own offset. -/
theorem tagRowsSetTheCursor : Obligations.TagRowsSetTheCursor :=
  fun _ _ _ _ _ hp => ⟨whenEnabled_of hp _, whenEnabled_of hp _⟩

/-- Settles O18: TAG is the phase that enables TAGSKIP. -/
theorem tagskipSetsTheCursor : Obligations.TagskipSetsTheCursor :=
  fun _ hp => whenEnabled_of hp _

end Sys2Proof.Proofs.TagSkipper
end

section
/-! SUPPORT. The fields of a header by quotient and remainder, and when a ROM look-up hits (41_header_decoder.md R142 to
R146). -/

namespace Sys2Proof.Machine

/-- A field of `n` bits from bit `i` of a byte on, as a quotient and a remainder. -/
theorem toNat_shiftRight_and (b : Byte) (i : Nat) {n : Nat} (hn : n ≤ 8) :
    (b >>> i &&& BitVec.ofNat 8 (2 ^ n - 1)).toNat = b.toNat / 2 ^ i % 2 ^ n := by
  have hmask : 2 ^ n - 1 < 2 ^ 8 :=
    Nat.sub_one_lt_of_le (Nat.two_pow_pos n) (Nat.pow_le_pow_right Nat.zero_lt_two hn)
  rw [BitVec.toNat_and, BitVec.toNat_ushiftRight, BitVec.toNat_ofNat, Nat.mod_eq_of_lt hmask,
    Nat.and_two_pow_sub_one_eq_mod, Nat.shiftRight_eq_div_pow]

theorem versionIdOf_eq_mod (b1 : Byte) : versionIdOf b1 = b1.toNat / 8 % 4 :=
  toNat_shiftRight_and b1 3 (n := 2) (by decide)

theorem layerOf_eq_mod (b1 : Byte) : layerOf b1 = b1.toNat / 2 % 4 :=
  toNat_shiftRight_and b1 1 (n := 2) (by decide)

theorem samplerateIndexOf_eq_mod (b2 : Byte) : samplerateIndexOf b2 = b2.toNat / 4 % 4 :=
  toNat_shiftRight_and b2 2 (n := 2) (by decide)

/-- The bitrate index is the top of its byte, so no remainder is left to take. -/
theorem bitrateIndexOf_eq_div (b2 : Byte) : bitrateIndexOf b2 = b2.toNat / 16 := by
  have hfield : bitrateIndexOf b2 = b2.toNat / 16 % 16 := toNat_shiftRight_and b2 4 (n := 4) (by decide)
  exact hfield.trans (Nat.mod_eq_of_lt (Nat.div_lt_of_lt_mul b2.isLt))

theorem toNat_paddingOf (b2 : Byte) : (paddingOf b2).toNat = b2.toNat / 2 % 2 := by
  rw [paddingOf_eq]
  exact Nat.toNat_testBit b2.toNat 1

/-- A look-up hits where the ROM has an entry and the entry is not the marker `invalid` (10_state.md R32). -/
theorem romEntry_eq_some {rom : List (Option Nat)} {index v : Nat} :
    romEntry rom index = some v ↔ rom[index]? = some (some v) := by
  unfold romEntry
  rw [List.getD_eq_getElem?_getD]
  cases rom[index]? <;> simp

end Sys2Proof.Machine
end

section
/-! The statements of 41_header_decoder.md. -/

namespace Sys2Proof.Proofs.HeaderDecoder

open Sys2Proof.Machine

/-- Settles O7: the checks and look-ups in their order, each field by quotient and remainder. -/
theorem hdrdecAnswersExactly : Obligations.HdrdecAnswersExactly := by
  intro B len p n
  rw [hdrdec_eq_some, headerSize_eq_some, sizeOfIndices_eq_some, hasSync_iff, and_assoc, versionIdOf_eq_mod,
    layerOf_eq_mod]
  simp only [romEntry_eq_some, bitrateIndexOf_eq_div, samplerateIndexOf_eq_mod, frameSize, toNat_paddingOf]
  rfl

/-- Settles O9: the decoder looks at the first three of the four bytes, once it knows that all four are readable. -/
theorem hdrdecDependsOnFourBytes : Obligations.HdrdecDependsOnFourBytes := by
  intro B B' len len' p p' hreadable hbytes
  have h0 : B.read p = B'.read p' := hbytes 0 (by decide)
  rw [hdrdec_eq, hdrdec_eq, h0, hbytes 1 (by decide), hbytes 2 (by decide)]
  exact if_congr hreadable rfl rfl

/-- Settles O2: the decoder runs on each of the sixteen words. -/
theorem specWordsDecode : Obligations.SpecWordsDecode := by
  unfold Obligations.SpecWordsDecode
  decide

end Sys2Proof.Proofs.HeaderDecoder
end

section
/-! SUPPORT. A WALK step with headroom, by what the candidate decodes to and by the verdict it is given
(43_frame_walker.md R194 to R196), and the signature rows as such steps. -/

namespace Sys2Proof.Machine

/-- In SCAN a step answers the register writes of its outcome. -/
theorem walkOn_of_outcome {s : State} (hp : s.phase = .scan) {header : Option Nat} {isMeta : Bool} {o : WalkOutcome}
    (h : s.outcome header isMeta = o) : walkOn header isMeta s = .next (s.applyOutcome o) :=
  h ▸ whenEnabled_of hp _

section

variable {s : State} (hp : s.phase = .scan) (hroom : s.cursor + 4 < s.len)
include hp hroom

/-- RESYNC (R194). -/
theorem walkOn_none (isMeta : Bool) : walkOn none isMeta s = .next s.resync :=
  walkOn_of_outcome hp (o := .resync) (if_pos ((State.inRange_iff s).2 hroom))

/-- SKIPMETA (R195). -/
theorem walkOn_some_of_skip {isMeta : Bool} (h : s.seen = false ∧ isMeta = true) (n : Nat) :
    walkOn (some n) isMeta s = .next (s.skipMeta n) :=
  walkOn_of_outcome hp (o := .skipMeta n) ((if_pos ((State.inRange_iff s).2 hroom)).trans (if_pos (by simpa using h)))

/-- ACCEPT (R196). -/
theorem walkOn_some_of_not_skip {isMeta : Bool} (h : ¬ (s.seen = false ∧ isMeta = true)) (n : Nat) :
    walkOn (some n) isMeta s = .next (s.accept n) :=
  walkOn_of_outcome hp (o := .accept n) ((if_pos ((State.inRange_iff s).2 hroom)).trans (if_neg (by simpa using h)))

/-- The three answers of a step at the state's own candidate. -/
theorem walkWithVerdict_of_room (isMeta : Bool) :
    (∀ n, hdrdec s.mem s.len s.cursor = some n →
      (s.seen = false ∧ isMeta = true → walkWithVerdict isMeta s = .next (s.skipMeta n)) ∧
      (¬ (s.seen = false ∧ isMeta = true) → walkWithVerdict isMeta s = .next (s.accept n))) ∧
    (hdrdec s.mem s.len s.cursor = none → walkWithVerdict isMeta s = .next s.resync) := by
  unfold walkWithVerdict State.candidate
  refine ⟨fun n hhdr => ?_, fun hhdr => ?_⟩ <;> rw [hhdr]
  · exact ⟨fun h => walkOn_some_of_skip hp hroom h n, fun h => walkOn_some_of_not_skip hp hroom h n⟩
  · exact walkOn_none hp hroom isMeta

end

/-- The three signature rows have one meaning: a signature in its window settles the verdict (42_metadata_detector.md
R173). -/
theorem exec_of_mem_signatureRows : ∀ i ∈ signatureRows, exec i = walkWithVerdict true := by
  simp only [signatureRows, List.forall_mem_cons, List.not_mem_nil, false_imp_iff, implies_true, and_true]
  exact ⟨rfl, rfl, rfl⟩

/-- WALK takes the detector's own verdict (R170). -/
theorem exec_walk (s : State) : exec .walk s = walkWithVerdict s.isMeta s := rfl

/-- With SEEN set a step does not depend on the verdict (R175). -/
theorem State.outcome_of_seen {s : State} (h : s.seen = true) (header : Option Nat) (isMeta isMeta' : Bool) :
    s.outcome header isMeta = s.outcome header isMeta' := by
  unfold State.outcome
  rw [h]
  rfl

end Sys2Proof.Machine
end

section
/-! SUPPORT. The detector's checks on the bytes of a window, and the `SIG4` row that those bytes decode to. -/

namespace Sys2Proof.Machine

/-- A window's bytes are a signature exactly when the window is readable and holds it (42_metadata_detector.md R174). -/
theorem State.windowBytes_eq_iff {s : State} {w : SigWindow} {sig : List Byte} (h : sig ≠ []) :
    s.windowBytes w = sig ↔ memRead s.mem s.len (s.cursor + windowOffset w) 4 = some sig := by
  unfold State.windowBytes
  cases memRead s.mem s.len (s.cursor + windowOffset w) 4 with
  | none => exact iff_of_false h.symm (by simp)
  | some bs => simp

/-- The Xing/Info check (R171) on the window's bytes. -/
theorem xingMatch_iff_windowBytes (s : State) :
    xingMatch s.mem s.len s.cursor = true ↔ s.windowBytes .at36 = asciiXing ∨ s.windowBytes .at36 = asciiInfo := by
  rw [State.windowBytes_eq_iff (by decide), State.windowBytes_eq_iff (by decide), memRead_eq_some, memRead_eq_some,
    ← and_or_left]
  exact xingMatch_iff ..

/-- The VBRI check (R172) on the window's bytes. -/
theorem vbriMatch_iff_windowBytes (s : State) :
    vbriMatch s.mem s.len s.cursor = true ↔ s.windowBytes .at40 = asciiVbri := by
  rw [State.windowBytes_eq_iff (by decide), memRead_eq_some]
  exact vbriMatch_iff ..

theorem State.isMeta_eq_or (s : State) :
    s.isMeta = (xingMatch s.mem s.len s.cursor || vbriMatch s.mem s.len s.cursor) := rfl

/-- The row that a window's bytes decode to is the WALK step there (30_encoding.md R99): a signature makes the verdict
true, and without one the verdict is the other window's (42_metadata_detector.md R173). -/
theorem exec_sigClass_windowBytes (s : State) (w : SigWindow) :
    exec (sigClass w (s.windowBytes w)) s = exec .walk s := by
  rw [exec_walk, State.isMeta_eq_or]
  cases w with
  | at36 =>
    have hxing := xingMatch_iff_windowBytes s
    simp only [sigClass]
    split_ifs with hX hI
    · rw [hxing.2 (.inl hX), Bool.true_or]
      rfl
    · rw [hxing.2 (.inr hI), Bool.true_or]
      rfl
    · rw [Bool.eq_false_iff.2 fun h => (hxing.1 h).elim hX hI, Bool.false_or]
      rfl
  | at40 =>
    have hvbri := vbriMatch_iff_windowBytes s
    simp only [sigClass]
    split_ifs with hV
    · rw [hvbri.2 hV, Bool.or_true]
      rfl
    · rw [Bool.eq_false_iff.2 fun h => hV (hvbri.1 h), Bool.or_false]
      rfl

end Sys2Proof.Machine
end

section
/-! SUPPORT. The detector on a placed stream, and the loop of 43_frame_walker.md R197 over a summary frame with frames
after it. -/

namespace Sys2Proof.Machine

/-- A part of a placed stream is read where it stands. -/
theorem memRead_loadStream (front item rest : List Byte) :
    memRead (loadStream (front ++ item ++ rest)) (front ++ item ++ rest).length front.length item.length =
      some item := by
  rw [memRead_eq_some]
  refine ⟨by simp, List.ext_getElem? fun k => ?_⟩
  rw [readBytes_getElem?, read_loadStream, List.append_assoc]
  split_ifs with hk
  · rw [List.getD_append_right _ _ _ _ (Nat.le_add_right ..), Nat.add_sub_cancel_left, List.getD_append _ _ _ _ hk,
      List.getD_eq_getElem _ _ hk, List.getElem?_eq_getElem hk]
  · exact (List.getElem?_eq_none (Nat.le_of_not_lt hk)).symm

/-- `XINGFRAME` is as long as its header says. -/
theorem length_xingFrameBytes {kbps hz : Nat} (h : RateOk kbps hz) (pad : Bool) {sig : List Byte}
    (hsig : sig.length = 4) : (xingFrameBytes kbps hz pad sig).length = frameSize kbps hz pad := by
  have hsize := h.le_frameSize pad
  simp only [xingFrameBytes, List.length_append, hdrBytes_length, zeroBytes_length, hsig]
  omega

/-- `VBRIFRAME` is as long as its header says. -/
theorem length_vbriFrameBytes {kbps hz : Nat} (h : RateOk kbps hz) (pad : Bool) :
    (vbriFrameBytes kbps hz pad).length = frameSize kbps hz pad := by
  have hsize := h.le_frameSize pad
  have hsig : asciiVbri.length = 4 := rfl
  simp only [vbriFrameBytes, List.length_append, hdrBytes_length, zeroBytes_length, hsig]
  omega

/-- The detector meets the signature of a `XINGFRAME` in the window at 36. -/
theorem vbrdet_xingFrameBytes (kbps hz : Nat) (pad : Bool) {sig : List Byte}
    (hsig : sig = asciiXing ∨ sig = asciiInfo) (rest : List Byte) :
    vbrdet (loadStream (xingFrameBytes kbps hz pad sig ++ rest)) (xingFrameBytes kbps hz pad sig ++ rest).length 0 =
      true := by
  have hread := memRead_loadStream (hdrBytes kbps hz pad ++ zeroBytes 32) sig
    (zeroBytes (frameSize kbps hz pad - 40) ++ rest)
  have hlen : sig.length = 4 := by rcases hsig with rfl | rfl <;> rfl
  rw [← List.append_assoc, hlen, memRead_eq_some] at hread
  obtain ⟨hroom, hread⟩ := hread
  exact (vbrdet_iff ..).2 (.inl ((xingMatch_iff ..).2 ⟨hroom, hsig.imp hread.trans hread.trans⟩))

/-- The detector meets the signature of a `VBRIFRAME` in the window at 40. -/
theorem vbrdet_vbriFrameBytes (kbps hz : Nat) (pad : Bool) (rest : List Byte) :
    vbrdet (loadStream (vbriFrameBytes kbps hz pad ++ rest)) (vbriFrameBytes kbps hz pad ++ rest).length 0 = true := by
  have hread := memRead_loadStream (hdrBytes kbps hz pad ++ zeroBytes 36) asciiVbri
    (zeroBytes (frameSize kbps hz pad - 44) ++ rest)
  rw [← List.append_assoc, memRead_eq_some] at hread
  exact (vbrdet_iff ..).2 (.inr ((vbriMatch_iff ..).2 hread))

/-- The detector reads no window of fewer than 40 bytes from the candidate on (R174). -/
theorem le_len_of_vbrdet {B : Memory} {len p : Nat} (h : vbrdet B len p = true) : p + 40 ≤ len := by
  rcases (vbrdet_iff B len p).1 h with hxing | hvbri
  · exact ((xingMatch_iff B len p).1 hxing).1
  · have hwindow := ((vbriMatch_iff B len p).1 hvbri).1
    omega

/-- A first frame that the detector answers true for is passed over as a whole, and the frames after it are counted. -/
theorem countBytes_summaryFrame {item : List Byte} {kbps hz : Nat} {pad : Bool} {frames : List (Nat × Nat × Bool)}
    (hrate : RateOk kbps hz) (hrates : ∀ f ∈ frames, RateOk f.1 f.2.1) (hhdr : hdrBytes kbps hz pad <+: item)
    (hlen : item.length = frameSize kbps hz pad)
    (hmeta : vbrdet (loadStream (item ++ framesBytes frames)) (item ++ framesBytes frames).length 0 = true) :
    countBytes (item ++ framesBytes frames) = frames.length := by
  obtain ⟨rest, hrest⟩ := hhdr.trans ⟨framesBytes frames, rfl⟩
  have hdrop : (item ++ framesBytes frames).drop (frameSize kbps hz pad) = framesBytes frames := List.drop_left' hlen
  generalize item ++ framesBytes frames = bs at hmeta hrest hdrop ⊢
  have hfirst : (loadStream bs).read 0 ≠ 0x49#8 := by
    rw [read_loadStream, ← hrest]
    exact show 0xFF#8 ≠ 0x49#8 by decide
  have hdec : hdrdec (loadStream bs) bs.length 0 = some (frameSize kbps hz pad) :=
    hdrdec_of_hdrBytes hrate hrest.symm
  have hroom := le_len_of_vbrdet hmeta
  obtain ⟨fuel, hfuel⟩ := Nat.exists_eq_add_of_le' (show 1 ≤ bs.length by omega)
  have henough : frames.length ≤ fuel := by
    have hafter := congrArg List.length hdrop
    rw [List.length_drop] at hafter
    have hframes := length_le_length_framesBytes frames
    have hsize := (hdrdec_bounds hdec).1
    omega
  calc countBytes bs
      = countLoop (loadStream bs) bs.length bs.length 0 0 false := by
        rw [countBytes, countFrames, skipLeadingTag_of_read_zero_ne hfirst]
    _ = countLoop (loadStream bs) bs.length (fuel + 1) 0 0 false := by rw [← hfuel]
    _ = countLoop (loadStream bs) bs.length fuel (0 + frameSize kbps hz pad) 0 true :=
        countLoop_skip (by omega) hdec hmeta
    _ = 0 + frames.length := countLoop_framesBytes hrates (by rw [Nat.zero_add, hdrop]) henough 0 true
    _ = frames.length := Nat.zero_add _

end Sys2Proof.Machine
end

section
/-! The statements of 42_metadata_detector.md. -/

namespace Sys2Proof.Proofs.MetadataDetector

open Sys2Proof.Machine

/-- Settles O12: the two checks, each byte of a window by itself. -/
theorem detectorAnswersExactly : Obligations.DetectorAnswersExactly := by
  intro B len p
  rw [vbrdet_iff, xingMatch_iff, vbriMatch_iff, readBytes_four, readBytes_four]
  simp only [asciiXing, asciiInfo, asciiVbri, List.cons.injEq, and_true, Nat.add_assoc, Nat.reduceAdd]

/-- Settles O19: the verdict of a signature row is true, so SEEN alone decides between skipping and counting. -/
theorem signatureSkipsTheFirstFrame : Obligations.SignatureSkipsTheFirstFrame := by
  intro i hi s hp hroom
  rw [exec_of_mem_signatureRows i hi]
  obtain ⟨hvalid, hinvalid⟩ := walkWithVerdict_of_room hp hroom true
  refine ⟨fun n hhdr => ?_, hinvalid⟩
  obtain ⟨hskip, haccept⟩ := hvalid n hhdr
  exact ⟨fun hseen => hskip ⟨hseen, rfl⟩, fun hseen => haccept (by simp [hseen])⟩

/-- Settles O20: the verdict of SIG4.NONE at a window is the other window's. -/
theorem noSignatureLeavesTheOtherWindow : Obligations.NoSignatureLeavesTheOtherWindow := by
  intro w s hp hroom
  cases w with
  | at36 => exact walkWithVerdict_of_room hp hroom (vbriMatch s.mem s.len s.cursor)
  | at40 => exact walkWithVerdict_of_room hp hroom (xingMatch s.mem s.len s.cursor)

/-- Settles O25: the header decoder reads the same bytes in both memories, and with SEEN set no verdict matters. -/
theorem detectorIsNotConsultedAgain : Obligations.DetectorIsNotConsultedAgain := by
  intro s m hp hseen hbytes
  have hcandidate : s.candidate = ({ s with mem := m } : State).candidate :=
    hdrdec_congr (fun k hk => hbytes k (Nat.lt_succ_of_lt hk)) _
  refine ⟨_, whenEnabled_of hp _, ?_⟩
  rw [State.outcome_of_seen hseen _ _ ({ s with mem := m } : State).isMeta, hcandidate, ← State.applyOutcome_withMem]
  exact whenEnabled_of hp _

/-- Settles O32: the block's own step in SCAN is WALK, and the decoded row is that step. -/
theorem stepRunsTheDecodedSignature : Obligations.StepRunsTheDecodedSignature := by
  intro s w i hi hp hdecode
  obtain rfl : sigClass w (s.windowBytes w) = i := Except.ok.inj hdecode
  rw [step_nil hi, blockStep_scan hp, exec_sigClass_windowBytes]
  exact (whenEnabled_of hp _).symm

/-- Settles O51: each of the three items is a frame of its class that the detector answers true for. -/
theorem summaryFrameIsNotCounted : Obligations.SummaryFrameIsNotCounted := by
  intro kbps hz pad frames hrate hrates
  rw [List.forall_mem_cons, List.forall_mem_cons, List.forall_mem_singleton]
  refine ⟨?_, ?_, ?_⟩
  · exact countBytes_summaryFrame hrate hrates ⟨_, rfl⟩ (length_xingFrameBytes hrate pad rfl)
      (vbrdet_xingFrameBytes kbps hz pad (.inl rfl) _)
  · exact countBytes_summaryFrame hrate hrates ⟨_, rfl⟩ (length_xingFrameBytes hrate pad rfl)
      (vbrdet_xingFrameBytes kbps hz pad (.inr rfl) _)
  · exact countBytes_summaryFrame hrate hrates ⟨_, rfl⟩ (length_vbriFrameBytes hrate pad)
      (vbrdet_vbriFrameBytes kbps hz pad _)

end Sys2Proof.Proofs.MetadataDetector
end

section
/-! SUPPORT. The WALK step without headroom, the rows of the opcode table as WALK steps (30_encoding.md R99), and the
header row that the candidate decodes to. -/

namespace Sys2Proof.Machine

/-- Without headroom a step ends the run, whatever the candidate is (43_frame_walker.md R193). -/
theorem walkOn_of_end {s : State} (hp : s.phase = .scan) (hend : s.len ≤ s.cursor + 4) (header : Option Nat)
    (isMeta : Bool) : walkOn header isMeta s = .next s.exitRun :=
  walkOn_of_outcome hp (o := .exit) (if_neg fun h => Nat.not_le_of_lt ((State.inRange_iff s).1 h) hend)

/-- Every row that SCAN enables is a WALK step at some candidate, with some verdict. -/
theorem exec_eq_walkOn {i : Instr} (h : enabledIn i = .scan) (s : State) :
    ∃ header isMeta, exec i s = walkOn header isMeta s := by
  cases i with
  | id3hdr | id3hdrAbsent | phaseIdle | tagskip | phaseDone => cases h
  | sig4None w => cases w <;> exact ⟨_, _, rfl⟩
  | _ => exact ⟨_, _, rfl⟩

/-- A row of 41_header_decoder.md R151 is the WALK step at a header of the row's size. -/
theorem exec_row {row : SizeRow} (hrow : row ∈ sizeTable) (pad : Bool) (s : State) :
    exec (row.instr pad) s = walkValidHeader (row.size + pad.toNat) s := by
  have hrows : sizeTable.map (fun row pad => exec (row.instr pad)) =
      sizeTable.map fun row pad => walkValidHeader (row.size + pad.toNat) := rfl
  exact congrFun (congrFun (List.map_inj_left.1 hrows row hrow) pad) s

/-- ACCEPT and SKIPMETA are decided by complementary conditions (R195, R196). -/
theorem State.not_skip {s : State} {isMeta : Bool} (h : s.seen = true ∨ isMeta = false) :
    ¬ (s.seen = false ∧ isMeta = true) := by
  rwa [not_and_or, Bool.not_eq_false, Bool.not_eq_true]

/-- At an invalid candidate no verdict matters (R194). -/
theorem walkInvalidHeader_eq (isMeta : Bool) (s : State) : walkInvalidHeader s = walkOn none isMeta s := rfl

/-- The ROM entries at a row's indices give the row's size. -/
theorem romEntries_row : ∀ row ∈ sizeTable,
    ∃ kbps ∈ bitrateRows.map Prod.snd, ∃ hz ∈ samplerateRows.map Prod.snd,
      romEntry Config.bitrateRom row.bitrateIndex = some kbps ∧
      romEntry Config.samplerateRom row.samplerateIndex = some hz ∧
      ∀ pad, row.size + Bool.toNat pad = frameSize kbps hz pad := by decide

/-- A look-up that hits is at no reserved index (41_header_decoder.md R145, R146). -/
theorem indicesValid_of_sizeOfIndices {b2 : Byte} {n : Nat} (h : sizeOfIndices b2 = some n) : IndicesValid b2 := by
  obtain ⟨kbps, hz, hkbps, hhz, -⟩ := sizeOfIndices_eq_some.1 h
  refine ⟨fun hfree => ?_, fun hrsvd => ?_, fun hrsvd => ?_⟩
  · rw [hfree] at hkbps
    cases hkbps
  · rw [hrsvd] at hkbps
    cases hkbps
  · rw [hrsvd] at hhz
    cases hhz

/-- The row that a candidate decodes to is the WALK step at what HDRDEC gives for it (30_encoding.md R99). -/
theorem exec_headerClass (b0 b1 b2 : Byte) (s : State) :
    exec (headerClass b0 b1 b2) s = walkOn (headerSize b0 b1 b2) s.isMeta s := by
  by_cases hvalid : HeaderSupported b0 b1 ∧ IndicesValid b2
  · obtain ⟨hs, hidx⟩ := hvalid
    obtain ⟨row, hrow, hbi, hsi, hclass⟩ := headerClass_of_valid hs hidx
    obtain ⟨hsync, hversion, hlayer⟩ := hs
    obtain ⟨kbps, -, hz, -, hkbps, hhz, hrowSize⟩ := romEntries_row row hrow
    have hsize : headerSize b0 b1 b2 = some (row.size + (paddingOf b2).toNat) :=
      headerSize_eq_some.2 ⟨hsync, hversion, hlayer,
        sizeOfIndices_eq_some.2 ⟨kbps, hz, hbi ▸ hkbps, hsi ▸ hhz, hrowSize _⟩⟩
    rw [hclass, hsize]
    exact exec_row hrow _ s
  · have hsize : headerSize b0 b1 b2 = none := by
      refine Option.eq_none_iff_forall_ne_some.2 fun n hn => hvalid ?_
      obtain ⟨hsync, hversion, hlayer, hidx⟩ := headerSize_eq_some.1 hn
      exact ⟨⟨hsync, hversion, hlayer⟩, indicesValid_of_sizeOfIndices hidx⟩
    rw [exec_of_mem_invalidRows _ (headerClass_of_not_valid hvalid), hsize]
    exact walkInvalidHeader_eq _ s

end Sys2Proof.Machine
end

section
/-! SUPPORT. Runs of the block alone: what each step writes, how it moves CURSOR, and that it comes to DONE. -/

namespace Sys2Proof.Machine

variable {s t : State}

/-- The block's own step writes neither the memory nor LEN nor what is the host's. -/
theorem BlockMove.frame (h : BlockMove s t) :
    t.mem = s.mem ∧ t.len = s.len ∧ t.lenIn = s.lenIn ∧ t.inbox = s.inbox := by
  cases h <;> exact ⟨rfl, rfl, rfl, rfl⟩

/-- A step of a run ends it or moves CURSOR forward (43_frame_walker.md R198, R199). -/
theorem BlockMove.exit_or_forward (h : BlockMove s t) (hp : s.phase = .scan) :
    (s.len ≤ s.cursor + 4 ∧ t = s.exitRun) ∨
      (s.cursor + 4 < s.len ∧ t.phase = .scan ∧ s.cursor < t.cursor) := by
  cases h with
  | stand hp' => simp [hp] at hp'
  | tagskip hp' => cases hp.symm.trans hp'
  | exit _ hend => exact .inl ⟨hend, rfl⟩
  | resync _ hroom => exact .inr ⟨hroom, hp, Nat.lt_succ_self _⟩
  | skipMeta n _ hroom hhdr | accept n _ hroom hhdr =>
    have hsize := (hdrdec_bounds hhdr).1
    exact .inr ⟨hroom, hp, Nat.lt_add_of_pos_right (by omega)⟩

/-- A step of the machine is the first step of its run. -/
theorem run_succ_of_next (h : step s = .next t) (k : Nat) :
    Sys2Proof.core.run (k + 1) s = Sys2Proof.core.run k t :=
  run_succ_of_step (M := Sys2Proof.core) h k

/-- With no host move pending a run goes on after a step of the block. -/
theorem exists_blockMove (hi : s.inbox = []) :
    ∃ t, BlockMove s t ∧ t.inbox = [] ∧ ∀ k, Sys2Proof.core.run (k + 1) s = Sys2Proof.core.run k t := by
  obtain ⟨t, hstep, hinbox⟩ := blockStep_total s
  exact ⟨t, blockMove_of_blockStep hstep, hinbox.trans hi, run_succ_of_next ((step_nil hi).trans hstep)⟩

/-- A run of the block alone writes neither the memory nor LEN nor LEN_IN. -/
theorem run_frame {k : Nat} (hi : s.inbox = []) (h : Sys2Proof.core.run k s = .next t) :
    t.mem = s.mem ∧ t.len = s.len ∧ t.lenIn = s.lenIn := by
  induction k generalizing s with
  | zero =>
    cases h
    exact ⟨rfl, rfl, rfl⟩
  | succ k ih =>
    obtain ⟨u, hb, hiu, hrun⟩ := exists_blockMove hi
    obtain ⟨hmem, hlen, hlenIn, -⟩ := hb.frame
    obtain ⟨hmem', hlen', hlenIn'⟩ := ih hiu ((hrun k).symm.trans h)
    exact ⟨hmem'.trans hmem, hlen'.trans hlen, hlenIn'.trans hlenIn⟩

/-- CURSOR never moves back in a run (R199). -/
theorem cursor_le_of_run {k : Nat} (hi : s.inbox = []) (hp : s.phase = .scan)
    (h : Sys2Proof.core.run k s = .next t) : s.cursor ≤ t.cursor := by
  induction k generalizing s with
  | zero =>
    cases h
    exact Nat.le_refl _
  | succ k ih =>
    obtain ⟨u, hb, hiu, hrun⟩ := exists_blockMove hi
    rw [hrun] at h
    rcases hb.exit_or_forward hp with ⟨-, rfl⟩ | ⟨-, hpu, hlt⟩
    · cases (run_of_done hiu rfl k).symm.trans h
      exact Nat.le_refl _
    · exact Nat.le_of_lt (Nat.lt_of_lt_of_le hlt (ih hiu hpu h))

/-- Without headroom a finished run is EXIT and nothing else. -/
theorem eq_exitRun_of_run {k : Nat} (hi : s.inbox = []) (hp : s.phase = .scan) (hend : s.len ≤ s.cursor + 4)
    (h : Sys2Proof.core.run k s = .next t) (hdone : t.phase = .done) : t = s.exitRun := by
  cases k with
  | zero =>
    cases h
    cases hp.symm.trans hdone
  | succ k =>
    obtain ⟨u, hb, hiu, hrun⟩ := exists_blockMove hi
    rw [hrun] at h
    rcases hb.exit_or_forward hp with ⟨-, rfl⟩ | ⟨hroom, -⟩
    · cases (run_of_done hiu rfl k).symm.trans h
      rfl
    · omega

/-- A run with no more than `m` offsets from CURSOR to LEN - 4 is done within `m + 1` steps (R198). -/
theorem exists_run_done {m : Nat} (hi : s.inbox = []) (hp : s.phase = .scan) (hm : s.len ≤ s.cursor + 4 + m) :
    ∃ k t, k ≤ m + 1 ∧ Sys2Proof.core.run k s = .next t ∧ t.phase = .done := by
  induction m generalizing s with
  | zero =>
    obtain ⟨u, hb, -, hrun⟩ := exists_blockMove hi
    rcases hb.exit_or_forward hp with ⟨-, rfl⟩ | ⟨hroom, -⟩
    · exact ⟨1, _, Nat.le_refl 1, hrun 0, rfl⟩
    · omega
  | succ m ih =>
    obtain ⟨u, hb, hiu, hrun⟩ := exists_blockMove hi
    rcases hb.exit_or_forward hp with ⟨-, rfl⟩ | ⟨-, hpu, hlt⟩
    · exact ⟨1, _, by omega, hrun 0, rfl⟩
    · obtain ⟨-, hlen, -⟩ := hb.frame
      obtain ⟨k, t, hk, hrun', hdone⟩ := ih hiu hpu (by omega)
      exact ⟨k + 1, t, by omega, (hrun k).trans hrun', hdone⟩

end Sys2Proof.Machine
end

section
/-! SUPPORT. The loop of 43_frame_walker.md R197 and the run, pass by step; with a length that lets the loop make the
same passes as the run's own, so that bytes after the last frame can be added. -/

namespace Sys2Proof.Machine

variable {s t : State}

/-- For the lengths `len` and `len'` a loop that stops at the cursor `last` makes the same passes. -/
structure SamePasses (B : Memory) (len len' last : Nat) : Prop where
  notShorter : len ≤ len'
  /-- A frame that ends at or before `last` has the same verdict. -/
  sameVerdict : ∀ p n, hdrdec B len p = some n → p + n ≤ last → vbrdet B len' p = vbrdet B len p
  /-- There is no headroom at `last`. -/
  sameEnd : len ≤ last + 4 → len' ≤ last + 4

theorem SamePasses.refl (B : Memory) (len last : Nat) : SamePasses B len len last :=
  ⟨Nat.le_refl len, fun _ _ _ _ => rfl, id⟩

/-- A readable header is read alike. -/
theorem SamePasses.header_eq {B : Memory} {len len' last p : Nat} (h : SamePasses B len len' last)
    (hroom : p + 4 < len) : hdrdec B len' p = hdrdec B len p := by
  have hlen := h.notShorter
  rw [hdrdec_eq, hdrdec_eq, if_pos (by omega), if_pos (by omega)]

/-- One step with headroom is one pass of the loop (R191 to R196). -/
theorem BlockMove.countLoop_pass {len' last : Nat} (hb : BlockMove s t) (hp : s.phase = .scan)
    (hroom : s.cursor + 4 < s.len) (hsame : SamePasses s.mem s.len len' last) (hlast : t.cursor ≤ last) (fuel : Nat) :
    countLoop s.mem len' (fuel + 1) s.cursor s.count s.seen = countLoop s.mem len' fuel t.cursor t.count t.seen := by
  have hroom' : s.cursor + 4 < len' := Nat.lt_of_lt_of_le hroom hsame.notShorter
  have hheader := hsame.header_eq hroom
  cases hb with
  | stand hp' => simp [hp] at hp'
  | tagskip hp' => cases hp.symm.trans hp'
  | exit _ hend => exact absurd hroom (Nat.not_lt_of_le hend)
  | resync _ _ hhdr => exact countLoop_resync hroom' (hheader.trans hhdr)
  | skipMeta n _ _ hhdr hseen hmeta =>
    rw [hseen]
    exact countLoop_skip hroom' (hheader.trans hhdr) ((hsame.sameVerdict _ n hhdr hlast).trans hmeta)
  | accept n _ _ hhdr hframe =>
    exact countLoop_accept hroom' (hheader.trans hhdr) (hframe.imp_right (hsame.sameVerdict _ n hhdr hlast).trans)

/-- A finished run ends with the count of the loop. -/
theorem countLoop_of_run {k fuel len' : Nat} (hi : s.inbox = []) (hp : s.phase = .scan)
    (hrun : Sys2Proof.core.run k s = .next t) (hdone : t.phase = .done) (hsame : SamePasses s.mem s.len len' t.cursor)
    (hfuel : len' ≤ s.cursor + fuel) : countLoop s.mem len' fuel s.cursor s.count s.seen = t.count := by
  induction k generalizing s fuel with
  | zero =>
    cases hrun
    cases hp.symm.trans hdone
  | succ k ih =>
    obtain ⟨u, hb, hiu, hstep⟩ := exists_blockMove hi
    rw [hstep] at hrun
    rcases hb.exit_or_forward hp with ⟨hend, rfl⟩ | ⟨hroom, hpu, hlt⟩
    · cases (run_of_done hiu rfl k).symm.trans hrun
      exact countLoop_exit (Nat.not_lt_of_le (hsame.sameEnd hend))
    · have hlen := hsame.notShorter
      obtain ⟨fuel, rfl⟩ := Nat.exists_eq_add_of_le' (show 1 ≤ fuel by omega)
      obtain ⟨hmem, hlenu, -⟩ := hb.frame
      rw [hb.countLoop_pass hp hroom hsame (cursor_le_of_run hiu hpu hrun), ← hmem]
      exact ih hiu hpu hrun (by rwa [hmem, hlenu]) (by omega)

/-- A started run enters SCAN at the Tag Skipper's result. -/
theorem run_of_started (hs : Started s) (hi : s.inbox = []) (k : Nat) :
    Sys2Proof.core.run (k + 1) s = Sys2Proof.core.run k (s.enterScan (skipLeadingTag s.mem s.len)) :=
  run_succ_of_next ((step_nil hi).trans (blockStep_tag hs.inTag)) k

/-- A started run that is done has made its first step, and goes on in SCAN. -/
theorem exists_run_of_started {n : Nat} (hs : Started s) (hi : s.inbox = [])
    (hrun : Sys2Proof.core.run n s = .next t) (hdone : t.phase = .done) :
    ∃ k, Sys2Proof.core.run k (s.enterScan (skipLeadingTag s.mem s.len)) = .next t := by
  cases n with
  | zero =>
    cases hrun
    cases hs.inTag.symm.trans hdone
  | succ k => exact ⟨k, (run_of_started hs hi k).symm.trans hrun⟩

/-- The loop that begins where a started run enters SCAN ends with the run's count. -/
theorem countLoop_of_started {n len' : Nat} (hs : Started s) (hi : s.inbox = [])
    (hrun : Sys2Proof.core.run n s = .next t) (hdone : t.phase = .done)
    (hsame : SamePasses s.mem s.len len' t.cursor) :
    countLoop s.mem len' len' (skipLeadingTag s.mem s.len) 0 false = t.count := by
  obtain ⟨k, hrun⟩ := exists_run_of_started hs hi hrun hdone
  have hcount := countLoop_of_run (s := s.enterScan (skipLeadingTag s.mem s.len)) hi rfl hrun hdone hsame
    (Nat.le_add_left len' _)
  rwa [State.enterScan_count, State.enterScan_seen, hs.noneCounted, hs.noneSeen] at hcount

/-- Where the header decoder answers for no offset, the loop counts nothing. -/
theorem countLoop_of_no_header {B : Memory} {len : Nat} (h : ∀ p, hdrdec B len p = none)
    (fuel cursor count : Nat) (seen : Bool) : countLoop B len fuel cursor count seen = count := by
  induction fuel generalizing cursor with
  | zero => rfl
  | succ fuel ih =>
    by_cases hroom : cursor + 4 < len
    · rw [countLoop_resync hroom (h cursor), ih]
    · exact countLoop_exit hroom

/-- A valid header begins with the byte FF (41_header_decoder.md R142). -/
theorem read_eq_of_hdrdec {B : Memory} {len p n : Nat} (h : hdrdec B len p = some n) : B.read p = 0xFF#8 := by
  obtain ⟨-, hsize⟩ := hdrdec_eq_some.1 h
  obtain ⟨hsync, -⟩ := headerSize_eq_some.1 hsize
  exact (hasSync_iff.1 hsync).1

/-- A buffer without headroom at offset 0 has none anywhere. -/
theorem countFrames_of_short (B : Memory) {len : Nat} (h : len ≤ 4) : countFrames B len = 0 :=
  countLoop_exit (by omega)

end Sys2Proof.Machine
end

section
/-! SUPPORT. Bytes after the last complete frame: the Tag Skipper, the detector and the loop with a longer buffer
(43_frame_walker.md R202). -/

namespace Sys2Proof.Machine

/-- Windows that are inside the buffer are read alike in a longer one. -/
theorem vbrdet_eq_of_le {B : Memory} {len len' p : Nat} (h : p + 44 ≤ len) (hlen : len ≤ len') :
    vbrdet B len' p = vbrdet B len p := by
  rw [Bool.eq_iff_iff, vbrdet_iff, vbrdet_iff, xingMatch_iff, xingMatch_iff, vbriMatch_iff, vbriMatch_iff]
  simp only [show p + 44 ≤ len' by omega, show p + 40 ≤ len' by omega, h, show p + 40 ≤ len by omega]

/-- A tag that ends inside the buffer, or the bytes of no tag, are read alike in a longer one. -/
theorem skipLeadingTag_eq_of_le {B : Memory} {len len' : Nat} (h : 3 ≤ len) (hlen : len ≤ len')
    (hin : skipLeadingTag B len ≤ len) : skipLeadingTag B len' = skipLeadingTag B len := by
  have hread : memRead B len' 0 3 = memRead B len 0 3 := by
    rw [memRead, memRead, if_pos (by omega), if_pos (by omega)]
  by_cases htag : memRead B len 0 3 = some asciiId3
  · rw [skipLeadingTag_of_tag htag] at hin ⊢
    have hten : 10 ≤ len := Nat.le_trans (Nat.le_add_right 10 _) hin
    have hdigit : ∀ k, k < 4 → sizeDigit B len' k = sizeDigit B len k := fun k hk => by
      rw [sizeDigit_eq, sizeDigit_eq, if_pos (by omega), if_pos (by omega)]
    rw [skipLeadingTag_of_tag (hread.trans htag), hdigit 0 (by decide), hdigit 1 (by decide), hdigit 2 (by decide),
      hdigit 3 (by decide)]
  · rw [skipLeadingTag_of_no_tag htag, skipLeadingTag_of_no_tag (hread ▸ htag)]

/-- A loop that stops exactly at the end of the buffer makes the same passes with up to four bytes more: each frame is
inside the buffer, and it is longer than the detector's windows. -/
theorem SamePasses.of_trailing (B : Memory) (len : Nat) {k : Nat} (hk : k ≤ 4) :
    SamePasses B len (len + k) len where
  notShorter := Nat.le_add_right len k
  sameVerdict p n hhdr hin := by
    have hsize := (hdrdec_bounds hhdr).1
    exact vbrdet_eq_of_le (by omega) (Nat.le_add_right len k)
  sameEnd _ := by omega

/-- A buffer of fewer than three bytes has no tag (40_tag_skipper.md R121). -/
theorem skipLeadingTag_of_lt {len : Nat} (h : len < 3) (B : Memory) : skipLeadingTag B len = 0 :=
  skipLeadingTag_of_no_tag fun htag => absurd ((tagPresent_iff B len).1 htag).1 (Nat.not_le_of_lt h)

end Sys2Proof.Machine
end

section
/-! SUPPORT. The host's call: LEN_IN, then START (43_frame_walker.md R208). -/

namespace Sys2Proof.Machine

/-- The state after the call with length `len` while no run is on: a run is started. -/
def State.called (s : State) (len : Nat) : State := ((s.setLenIn len).popMove []).launch

theorem State.started_called (s : State) (len : Nat) : Started (s.called len) := ⟨rfl, rfl, rfl, rfl⟩

/-- An accepted START launches (10_state.md R34). -/
theorem step_launch {s : State} {v : Nat} {rest : List HostMove} (hi : s.inbox = .write .start v :: rest)
    (hgo : v % 2 = 1) (hfree : s.phase.busy = false) (hlen : lenPremise s.lenIn = true) :
    step s = .next (s.popMove rest).launch := by
  rw [step_cons hi]
  exact (hostWrite_start_of_go hgo _).trans (hostGo_of_lenPremise (s := s.popMove rest) hfree hlen)

/-- The two moves of the host start the run. -/
theorem run_of_call {s : State} {len : Nat} (hi : s.inbox = [.write .lenIn len, .write .start 1])
    (hfree : s.phase.busy = false) (hlen : lenPremise len = true) (k : Nat) :
    Sys2Proof.core.run (k + 2) s = Sys2Proof.core.run k (s.called len) := by
  have hlenIn : step s = .next ((s.popMove [.write .start 1]).setLenIn len) := step_cons hi
  have hstart : step ((s.popMove [.write .start 1]).setLenIn len) = .next (s.called len) :=
    step_launch (s := (s.popMove [.write .start 1]).setLenIn len) rfl rfl hfree hlen
  rw [run_succ_of_next hlenIn, run_succ_of_next hstart]

end Sys2Proof.Machine
end

section
/-! The statements of 43_frame_walker.md. -/

namespace Sys2Proof.Proofs.FrameWalker

open Sys2Proof.Machine

/-- Settles O13: the row is the WALK step at a header of its size, and no summary frame is to be skipped. -/
theorem validHeaderIsAccepted : Obligations.ValidHeaderIsAccepted := by
  intro row hrow pad s hp hroom hframe
  exact (exec_row hrow pad s).trans (walkOn_some_of_not_skip hp hroom (State.not_skip hframe) _)

/-- Settles O14: the row is the WALK step at a header of its size, which the detector's verdict skips. -/
theorem validHeaderIsSkipped : Obligations.ValidHeaderIsSkipped := by
  intro row hrow pad s hp hroom hseen hmeta
  exact (exec_row hrow pad s).trans (walkOn_some_of_skip hp hroom ⟨hseen, hmeta⟩ _)

/-- Settles O16: each of these rows is a WALK step, and the loop condition comes first in it. -/
theorem noHeadroomExits : Obligations.NoHeadroomExits := by
  intro i s hscan hp hend
  obtain ⟨header, isMeta, hexec⟩ := exec_eq_walkOn hscan s
  exact hexec.trans (walkOn_of_end hp hend header isMeta)

/-- Settles O30: the decoded row is the WALK step at what HDRDEC gives where the header is readable; where it is not,
there is no headroom and both end the run. -/
theorem stepRunsTheDecodedHeader : Obligations.StepRunsTheDecodedHeader := by
  intro s i hi hp hdecode
  obtain rfl : headerClass (s.mem.read s.cursor) (s.mem.read (s.cursor + 1)) (s.mem.read (s.cursor + 2)) = i :=
    Except.ok.inj hdecode
  have hstep : step s = walkOn s.candidate s.isMeta s :=
    (step_nil hi).trans ((blockStep_scan hp).trans (whenEnabled_of hp _).symm)
  rw [hstep, exec_headerClass]
  by_cases hroom : s.cursor + 4 < s.len
  · rw [State.candidate, hdrdec_eq, if_pos (Nat.le_of_lt hroom)]
  · rw [walkOn_of_end hp (Nat.le_of_not_lt hroom), walkOn_of_end hp (Nat.le_of_not_lt hroom)]

/-- Settles O39: EXIT ends the run and the other outcomes move forward; the two that a valid header allows set SEEN. -/
theorem runProgress : Obligations.RunProgress := by
  intro s t hp hstep
  have hmove := blockMove_of_blockStep hstep
  have hforward : t = { s with phase := .done } ∨ (t.phase = .scan ∧ s.cursor < t.cursor) :=
    (hmove.exit_or_forward hp).imp And.right And.right
  refine ⟨hforward, ?_⟩
  cases hmove with
  | stand | tagskip | exit | resync => exact ⟨.inl rfl, id, absurd rfl, id⟩
  | skipMeta n _ _ hhdr =>
    exact ⟨.inl rfl, fun _ => rfl, fun _ => Option.isSome_of_mem hhdr, nofun⟩
  | accept n _ _ hhdr =>
    have hvalid := Option.isSome_of_mem hhdr
    exact ⟨.inr ⟨rfl, rfl, hvalid⟩, fun _ => rfl, fun _ => hvalid, nofun⟩

/-- Settles O41: in TAG and SCAN a START is ignored, and a store that is not refused changes no byte below LEN. -/
theorem runIsNotDisturbed : Obligations.RunIsNotDisturbed := by
  intro s t hp hwf hreset hstep
  have hbusy : s.phase.busy = true := Phase.busy_eq_true.2 hp
  have hsame : SameBytes s.mem s.mem s.len := fun _ _ => rfl
  cases machineMove_of_step hstep with
  | block rest hi hb =>
    obtain ⟨hmem, hlen, -⟩ := hb.frame
    refine ⟨hlen, hmem ▸ hsame, fun m rest' hm hne => ?_⟩
    rcases hi with ⟨hi, -⟩ | hi
    · cases hi.symm.trans hm
    · cases hi.symm.trans hm
      exact absurd rfl hne
  | launch _ _ _ _ hfree => cases hbusy.symm.trans hfree
  | hwReset rest hi => exact absurd hi (hreset rest)
  | store a b rest _ hkeep =>
    refine ⟨rfl, fun c hc => ?_, fun _ _ _ _ => ⟨rfl, rfl, rfl, rfl⟩⟩
    refine (Memory.read_write hwf a c b).trans ?_
    split_ifs with hca
    · subst hca
      rcases hkeep with hfree | hout | hb
      · cases hbusy.symm.trans hfree
      · omega
      · exact hb
    · rfl
  | ignoredWrite | setLenIn | answer => exact ⟨rfl, hsame, fun _ _ _ _ => ⟨rfl, rfl, rfl, rfl⟩⟩

/-- Settles O44: one step of TAGSKIP, then a run in SCAN that is done in time, and that counts as the loop does. -/
theorem runCountsTheFrames : Obligations.RunCountsTheFrames := by
  intro s hs hi
  obtain ⟨k, t, hk, hrun, hdone⟩ := exists_run_done (s := s.enterScan (skipLeadingTag s.mem s.len)) (m := s.len - 4) hi
    rfl (by rw [State.enterScan_len]; omega)
  rw [← run_of_started hs hi] at hrun
  exact ⟨k + 1, t, by omega, hrun, hdone, (countLoop_of_started hs hi hrun hdone (.refl ..)).symm, run_frame hi hrun⟩

/-- Settles O45: two moves of the host lead from reset to a started run. -/
theorem hostCallReturnsTheCount : Obligations.HostCallReturnsTheCount := by
  intro bs hpremise
  obtain ⟨k, t, hk, hrun, hdone, hcount, -⟩ := runCountsTheFrames _ (State.started_called { State.reset with
    mem := loadStream bs, inbox := [.write .lenIn bs.length, .write .start 1] } bs.length) rfl
  exact ⟨k + 2, t, Nat.add_le_add_right hk 2, (run_of_call rfl rfl hpremise k).trans hrun,
    congrArg (fun p => p.code.toNat) hdone, hcount⟩

/-- Settles O47: the loop makes no pass. -/
theorem shortBuffersCountZero : Obligations.ShortBuffersCountZero :=
  fun B _ h => countFrames_of_short B h

/-- Settles O48: no offset holds a valid header, so every pass resynchronises. -/
theorem noSyncByteCountsZero : Obligations.NoSyncByteCountsZero := by
  intro B len hbytes
  refine countLoop_of_no_header (fun p => Option.eq_none_iff_forall_ne_some.2 fun n hhdr => ?_) _ _ _ _
  obtain ⟨hroom, -⟩ := hdrdec_eq_some.1 hhdr
  exact hbytes p (by omega) (read_eq_of_hdrdec hhdr)

/-- Settles O49: with the longer length the loop begins at the same offset and makes the same passes. Only a buffer with
no room for a tag's signature may show one when it grows; its run exits at once, at offset 0, so it is empty. -/
theorem trailingBytesDoNotCount : Obligations.TrailingBytesDoNotCount := by
  intro s t n k hs hi hrun hdone hcursor hk
  have hcount := countLoop_of_started (len' := s.len + k) hs hi hrun hdone
    (by rw [hcursor]; exact .of_trailing s.mem s.len hk)
  obtain ⟨j, hrun⟩ := exists_run_of_started hs hi hrun hdone
  by_cases hlen : 3 ≤ s.len
  · have hin : skipLeadingTag s.mem s.len ≤ s.len :=
      (cursor_le_of_run (s := s.enterScan _) hi rfl hrun).trans_eq hcursor
    rw [← hcount, countFrames, skipLeadingTag_eq_of_le hlen (Nat.le_add_right ..) hin]
  · obtain rfl := eq_exitRun_of_run (s := s.enterScan _) hi rfl (by rw [State.enterScan_len]; omega) hrun hdone
    have hempty : 0 = s.len := (skipLeadingTag_of_lt (Nat.lt_of_not_le hlen) s.mem).symm.trans hcursor
    rw [countFrames_of_short _ (by omega)]
    exact hs.noneCounted.symm

/-- Settles O21: EXIT, and DONE is stable. -/
theorem walkExits : Obligations.WalkExits :=
  fun s m hp hend => ⟨walkOn_of_end (s := { s with mem := m }) hp hend _ _, blockStep_done rfl⟩

/-- Settles O22: RESYNC. -/
theorem walkResyncs : Obligations.WalkResyncs := by
  intro s hp hroom hhdr
  obtain ⟨-, hresync⟩ := walkWithVerdict_of_room hp hroom s.isMeta
  exact hresync hhdr

/-- Settles O23: SKIPMETA. -/
theorem walkSkipsTheSummaryFrame : Obligations.WalkSkipsTheSummaryFrame := by
  intro s n hp hroom hhdr hseen hmeta
  obtain ⟨hvalid, -⟩ := walkWithVerdict_of_room hp hroom s.isMeta
  obtain ⟨hskip, -⟩ := hvalid n hhdr
  exact hskip ⟨hseen, hmeta⟩

/-- Settles O24: ACCEPT. -/
theorem walkAcceptsTheFrame : Obligations.WalkAcceptsTheFrame := by
  intro s n hp hroom hhdr hframe
  obtain ⟨hvalid, -⟩ := walkWithVerdict_of_room hp hroom s.isMeta
  obtain ⟨-, haccept⟩ := hvalid n hhdr
  exact haccept (State.not_skip hframe)

end Sys2Proof.Proofs.FrameWalker
end

section
/-! SUPPORT. Everything a step of the machine can be refused for, one constructor per way. The block's own step is never
refused, so each of them is a move of the host's. -/

namespace Sys2Proof.Machine

theorem blockStep_ne_refused (s : State) (r : Refusal) : blockStep s ≠ .refused r := by
  obtain ⟨t, ht, -⟩ := blockStep_total s
  rw [ht]
  nofun

/-- The ways a step from `s` is refused (10_state.md R31; 20_memory.md R55; 60_exceptions.md R245). -/
inductive MachineRefusal (s : State) : Refusal → Prop
  | launch (v : Nat) (rest : List HostMove) (hi : s.inbox = .write .start v :: rest) (hgo : v % 2 = 1)
      (hfree : s.phase.busy = false) (hlen : lenPremise s.lenIn = false) : MachineRefusal s .lenOutsidePremise
  | store (a : Nat) (b : Byte) (rest : List HostMove) (hi : s.inbox = .place a b :: rest)
      (hbusy : s.phase.busy = true) (hbelow : a < s.len) (hchange : b ≠ s.mem.read a) :
      MachineRefusal s .byteChangedDuringRun

theorem machineRefusal_of_hostWrite {s : State} {r : HostReg} {v : Nat} {rest : List HostMove} {why : Refusal}
    (hi : s.inbox = .write r v :: rest) (h : hostWrite r v (s.popMove rest) = .refused why) : MachineRefusal s why := by
  rcases hostWrite_cases r v (s.popMove rest) with ⟨rfl, hgo, hw⟩ | ⟨-, hw⟩ | ⟨-, -, hw⟩
  · rcases hostGo_cases (s.popMove rest) with ⟨-, hg⟩ | ⟨-, -, hg⟩ | ⟨hfree, hlen, hg⟩ <;>
      cases hg.symm.trans (hw.symm.trans h)
    exact .launch v rest hi hgo hfree hlen
  · cases hw.symm.trans h
  · cases hw.symm.trans h

theorem machineRefusal_of_step {s : State} {why : Refusal} (h : step s = .refused why) : MachineRefusal s why := by
  cases hi : s.inbox with
  | nil => exact absurd ((step_nil hi).symm.trans h) (blockStep_ne_refused s why)
  | cons m rest =>
    rw [step_cons hi] at h
    cases m with
    | letBlock => exact absurd h (blockStep_ne_refused _ why)
    | write r v => exact machineRefusal_of_hostWrite hi h
    | place a b =>
      rcases hostStore_cases a b (s.popMove rest) with ⟨hbusy, hbelow, hchange, hs⟩ | ⟨-, hs⟩ <;>
        cases hs.symm.trans h
      exact .store a b rest hi hbusy hbelow hchange
    | read | reset => cases h

end Sys2Proof.Machine
end

section
/-! The statement of 60_exceptions.md. -/

namespace Sys2Proof.Proofs.Exceptions

open Sys2Proof.Machine

/-- Settles O33: the block's own step is total, and the host's moves are refused in two ways only. -/
theorem blockNeverStops : Obligations.BlockNeverStops := by
  refine ⟨fun s hi => ?_, fun s why hstep => ?_⟩
  · obtain ⟨t, ht, -⟩ := blockStep_total s
    exact ⟨t, (step_nil hi).trans ht⟩
  · cases machineRefusal_of_step hstep with
    | launch v rest hi hgo hfree hlen =>
      have hlong : ¬ s.lenIn ≤ 4294965855 := mt lenPremise_iff.2 (Bool.eq_false_iff.1 hlen)
      obtain ⟨htag, hscan⟩ := not_or.1 (mt Phase.busy_eq_true.2 (Bool.eq_false_iff.1 hfree))
      exact .inl ⟨rfl, htag, hscan, by omega, v, rest, hi, hgo⟩
    | store a b rest hi hbusy hbelow hchange =>
      exact .inr ⟨rfl, Phase.busy_eq_true.1 hbusy, a, b, rest, hi, hbelow, hchange⟩

end Sys2Proof.Proofs.Exceptions
end

section
/-! SUPPORT. The bytes of an encoded word, and the header rows read back from theirs (30_encoding.md R81, R90). -/

namespace Sys2Proof.Machine

/-- The last byte of a word is its lowest. -/
theorem beBytes_succ_mul_add (n w : Nat) {b : Nat} (hb : b < 256) :
    beBytes (n + 1) (w * 256 + b) = beBytes n w ++ [BitVec.ofNat 8 b] := by
  have hquotient : (w * 256 + b) / 256 = w := by omega
  have hbyte : BitVec.ofNat 8 (w * 256 + b) = BitVec.ofNat 8 b := by
    apply BitVec.eq_of_toNat_eq
    rw [BitVec.toNat_ofNat, BitVec.toNat_ofNat]
    omega
  rw [beBytes, hquotient, hbyte]

theorem byteCount_row : ∀ row ∈ sizeTable, ∀ pad, (row.instr pad).byteCount = 4 := by decide

/-- The third byte of a valid header: the two indices and the padding bit, where R81 has them. -/
def indexByte (bi si : Nat) (pad : Bool) : Byte := BitVec.ofNat 8 (bi * 16 + si * 4 + pad.toNat * 2)

theorem bitrateIndexOf_indexByte : ∀ bi < 16, ∀ si < 4, ∀ pad, bitrateIndexOf (indexByte bi si pad) = bi := by decide

theorem samplerateIndexOf_indexByte : ∀ bi < 16, ∀ si < 4, ∀ pad, samplerateIndexOf (indexByte bi si pad) = si := by
  decide

theorem paddingOf_indexByte : ∀ bi < 16, ∀ si < 4, ∀ pad, paddingOf (indexByte bi si pad) = pad := by decide

theorem encode_row {row : SizeRow} (hrow : row ∈ sizeTable) (pad : Bool) :
    encode (row.instr pad) = [0xFF#8, 0xFA#8, indexByte row.bitrateIndex row.samplerateIndex pad, 0x00#8] := by
  obtain ⟨hbi, hsi⟩ := sizeTable_indices row hrow
  have hpad := Bool.toNat_le pad
  have hword : encodeWord (row.instr pad) =
      (0xFFFA * 256 + (row.bitrateIndex * 16 + row.samplerateIndex * 4 + pad.toNat * 2)) * 256 + 0 := by
    rw [encodeWord_row row hrow]
    omega
  rw [encode, byteCount_row row hrow, hword, beBytes_succ_mul_add 3 _ (by decide),
    beBytes_succ_mul_add 2 _ (by omega)]
  rfl

/-- The decoder finds a row's two indices and its padding bit in the encoded third byte. -/
theorem decode_encode_row {row : SizeRow} (hrow : row ∈ sizeTable) (pad : Bool) :
    decode .mpahdr (encode (row.instr pad)) = .ok (row.instr pad) := by
  obtain ⟨hbi, hsi⟩ := sizeTable_indices row hrow
  have hsupported : HeaderSupported 0xFF#8 0xFA#8 := headerSupported_iff.2 ⟨rfl, rfl⟩
  rw [encode_row hrow, decode_mpahdr, headerClass_of_row hrow hsupported (bitrateIndexOf_indexByte _ hbi _ hsi pad)
    (samplerateIndexOf_indexByte _ hbi _ hsi pad), paddingOf_indexByte _ hbi _ hsi]

theorem decode_encode_invalidRow : ∀ i ∈ invalidRows, decode .mpahdr (encode i) = .ok i := by
  simp only [invalidRows, List.forall_mem_cons, List.not_mem_nil, false_imp_iff, implies_true, and_true]
  exact ⟨rfl, rfl, rfl, rfl, rfl, rfl, rfl, rfl, rfl, rfl⟩

/-- Every instruction of the header format is a row of the table or an INVALID row (R86, R87). -/
theorem row_or_invalid_of_format {i : Instr} (h : i.format = .mpahdr) :
    (∃ row ∈ sizeTable, ∃ pad, i = row.instr pad) ∨ i ∈ invalidRows := by
  cases i with
  | id3hdr | id3hdrAbsent | sigXing | sigInfo | sigVbri | sig4None | phaseIdle | tagskip | walk | phaseDone => cases h
  | invalidVersion0 | invalidVersion1 | invalidVersion2 | invalidLayer0 | invalidLayer2 | invalidLayer3
  | invalidBitrateFree | invalidBitrateRsvd | invalidSamplerateRsvd | invalidNosync => exact .inr (by decide)
  | _ pad =>
    clear h
    exact .inl (by revert pad; decide)

theorem decode_encode_mpahdr {i : Instr} (h : i.format = .mpahdr) : decode .mpahdr (encode i) = .ok i := by
  rcases row_or_invalid_of_format h with ⟨row, hrow, pad, rfl⟩ | hinvalid
  · exact decode_encode_row hrow pad
  · exact decode_encode_invalidRow i hinvalid

end Sys2Proof.Machine
end

section
/-! SUPPORT. The leading tag read back from its encoded bytes (30_encoding.md R90, R91). -/

namespace Sys2Proof.Machine

theorem digitOf_ofNat : ∀ d < 128, digitOf (some (BitVec.ofNat 8 d)) = d := by decide

theorem wf_id3hdr_iff {a b c d : Nat} :
    (Instr.id3hdr a b c d).wf = true ↔ a < 128 ∧ b < 128 ∧ c < 128 ∧ d < 128 := by
  simp [Instr.wf, digitOk, and_assoc]

/-- The tag header: its signature, three bytes of no field, and the four digits. -/
theorem encode_id3hdr {a b c d : Nat} (ha : a < 128) (hb : b < 128) (hc : c < 128) (hd : d < 128) :
    encode (.id3hdr a b c d) = asciiId3 ++ [0x00#8, 0x00#8, 0x00#8] ++
      [BitVec.ofNat 8 a, BitVec.ofNat 8 b, BitVec.ofNat 8 c, BitVec.ofNat 8 d] := by
  have hword : encodeWord (.id3hdr a b c d) =
      (((0x494433000000 * 256 + a) * 256 + b) * 256 + c) * 256 + d := by
    rw [encodeWord]
    omega
  rw [encode, Instr.byteCount, hword, beBytes_succ_mul_add 9 _ (by omega), beBytes_succ_mul_add 8 _ (by omega),
    beBytes_succ_mul_add 7 _ (by omega), beBytes_succ_mul_add 6 _ (by omega)]
  rfl

theorem decode_encode_id3hdr {a b c d : Nat} (h : (Instr.id3hdr a b c d).wf = true) :
    decode .id3hdr (encode (.id3hdr a b c d)) = .ok (.id3hdr a b c d) := by
  obtain ⟨ha, hb, hc, hd⟩ := wf_id3hdr_iff.1 h
  have hdigits : decode .id3hdr (encode (.id3hdr a b c d)) =
      .ok (.id3hdr (digitOf (some (BitVec.ofNat 8 a))) (digitOf (some (BitVec.ofNat 8 b)))
        (digitOf (some (BitVec.ofNat 8 c))) (digitOf (some (BitVec.ofNat 8 d)))) := by
    rw [encode_id3hdr ha hb hc hd]
    rfl
  rw [hdigits, digitOf_ofNat a ha, digitOf_ofNat b hb, digitOf_ofNat c hc, digitOf_ofNat d hd]

end Sys2Proof.Machine
end

section
/-! The round trip of 30_encoding.md. -/

namespace Sys2Proof.Proofs.RoundTrip

open Sys2Proof.Machine

/-- Settles O1, format by format: a header is a row of the table or an INVALID row, a tag carries its digits, and the
signatures and the PHASE codes are fixed words. -/
theorem decodeEncodeRoundTrip : Obligations.DecodeEncodeRoundTrip := by
  intro i hwf
  cases i with
  | id3hdr a b c d => exact decode_encode_id3hdr hwf
  | id3hdrAbsent | sigXing | sigInfo | sigVbri => rfl
  | sig4None w => cases w <;> rfl
  | phaseIdle => exact decode_phaseCode .idle
  | tagskip => exact decode_phaseCode .tag
  | walk => exact decode_phaseCode .scan
  | phaseDone => exact decode_phaseCode .done
  | _ => exact decode_encode_mpahdr rfl

end Sys2Proof.Proofs.RoundTrip
end
